-- ==== Sys2Proof/Word.lean ====
section
/-! DEFINITION. The block's word types. -/

namespace Sys2Proof

/-- One byte: a control register, a memory byte, a port operand. -/
abbrev Byte := BitVec 8

/-- A 32-bit host command word or result word (30_encoding R80, R81). -/
abbrev Word := BitVec 32

/-- A colour `0xAARRGGBB` (00_scope R13). -/
abbrev Colour := BitVec 32

/-- A value of the `cycle` input: CYCLE_WIDTH = 64 bits (10_state R49). -/
abbrev Cycle := BitVec 64

end Sys2Proof
end

