-- ==== Sys2Proof/Syntax.lean ====
section
/-! DEFINITION. The instructions: one constructor per row of spec/opcode_table.json. The first sixteen are the host commands
(30_encoding R81); the other nine are the renderer selections of the mode vector (30_encoding R82). -/

namespace Sys2Proof

inductive Instr
  /-- `NOP` (40_host_ops R124). -/
  | nop
  /-- `REGWR r, v` (R111): the register index is A & 0x0F. -/
  | regwr (r : BitVec 4) (v : Byte)
  /-- `VRAMWR a, v` (R112). -/
  | vramwr (a : BitVec 14) (v : Byte)
  /-- `VRAMRD a` (R113). -/
  | vramrd (a : BitVec 14)
  /-- `CRAMWR a, v` (R114): the 14-bit A, reduced modulo CRAM_SIZE when it runs. -/
  | cramwr (a : BitVec 14) (v : Byte)
  /-- `CRAMRD a` (R115). -/
  | cramrd (a : BitVec 14)
  /-- `STATRD` (R116). -/
  | statrd
  /-- `FLAGCLR m` (R117): the mask is D[3:0]. -/
  | flagclr (m : BitVec 4)
  /-- `VCNTRD` (R118). -/
  | vcntrd
  /-- `HCNTRD` (R119). -/
  | hcntrd
  /-- `IRQRD` (R120). -/
  | irqrd
  /-- `LINE` (R121). -/
  | line
  /-- `FRAMERD x, y` (R122). -/
  | framerd (x y : Byte)
  /-- `FRAMEDIM` (R123). -/
  | framedim
  /-- OP 0xE: illegal (30_encoding R85). -/
  | illegalE
  /-- OP 0xF: illegal (30_encoding R85). -/
  | illegalF
  /-- Mode vector with M4 = 1 (30_encoding R82): Mode 4 (43_background_mode4 R202). M3, M2 and M1 are don't-care bits. -/
  | mode4 (hsel : BitVec 2) (m3 m2 m1 : Bool)
  /-- M4..M1 = 0000: Graphics I (44_background_legacy R222). -/
  | graphics1 (hsel : BitVec 2)
  /-- M4..M1 = 0010: Graphics II (R223). -/
  | graphics2 (hsel : BitVec 2)
  /-- M4..M1 = 0100: Multicolour (R225). -/
  | multicolour (hsel : BitVec 2)
  /-- M4..M1 = 0001: Text (R226). -/
  | text (hsel : BitVec 2)
  /-- M4..M1 = 0011: fallback (R229). -/
  | fallback3 (hsel : BitVec 2)
  /-- M4..M1 = 0101: fallback (R229). -/
  | fallback5 (hsel : BitVec 2)
  /-- M4..M1 = 0110: fallback (R229). -/
  | fallback6 (hsel : BitVec 2)
  /-- M4..M1 = 0111: fallback (R229). -/
  | fallback7 (hsel : BitVec 2)
  deriving DecidableEq, Repr

end Sys2Proof
end

