-- ==== Sys2Proof/Config.lean ====
section
/-! DEFINITION. What an implementation or its surroundings fix: the construction parameters and the configuration inputs of
00_scope section 4, and the free values (constants without a body). -/

namespace Sys2Proof

/-- A byte memory: address and byte pairs, addresses strictly rising, no listed zero byte (Machine/Memory.lean). -/
abbrev Memory := List Host.Cell

/-- One line of 256 pixels (10_state R37). -/
abbrev Row := Vector Colour 256

/-- The Pixel Buffer: 240 rows (10_state R37). -/
abbrev PixelBuffer := Vector Row 240

/-- CRAM_FORMAT (30_encoding R94). -/
inductive CramFormat
  | sms
  | gg
  deriving DecidableEq, Repr

/-- LINE_INT_TEST (42_beam R170). -/
inductive LineIntTest
  | afterDecrement
  | beforeDecrement
  deriving DecidableEq, Repr

/-- LEGACY_EC_SHIFT, restricted to 8 or 32 (45_sprites R267, R271). -/
inductive LegacyEcShift
  | by8
  | by32
  deriving DecidableEq, Repr

/-- The latched video system `Sys` (10_state R43). -/
inductive TvSystem
  | ntsc
  | pal
  deriving DecidableEq, Repr

/-- The input cfg.VideoSystem (00_scope section 4). -/
inductive VideoSystem
  | ntsc
  | pal
  | invalid
  deriving DecidableEq, Repr

/-- An active frame height: the latched `H`, and the input cfg.VerticalResolution (10_state R43). -/
inductive Height
  | h192
  | h224
  | h240
  deriving DecidableEq, Repr

/-- cfg.ResizingMode and ResizeLatched (10_state R45). -/
inductive ResizingMode
  | normal
  | cropped
  | scaled
  deriving DecidableEq, Repr

/-- cfg.FixedPalette (30_encoding R95). -/
inductive FixedPalette
  | masterSystem
  | tms9918
  deriving DecidableEq, Repr

/-- The six beam regions (10_state R39). -/
inductive Region
  | activeDisplay
  | bottomBorder
  | bottomBlanking
  | verticalBlanking
  | topBlanking
  | topBorder
  deriving DecidableEq, Repr

/-- One row of REGION_LEN: how many lines each region lasts (41_counter_tables R141). -/
structure RegionLens where
  activeDisplay    : Nat
  bottomBorder     : Nat
  bottomBlanking   : Nat
  verticalBlanking : Nat
  topBlanking      : Nat
  topBorder        : Nat
  deriving DecidableEq, Repr

/-- One value for each of the six timing profiles (41_counter_tables R140). -/
structure PerProfile (α : Type) where
  ntsc192 : α
  ntsc224 : α
  ntsc240 : α
  pal192  : α
  pal224  : α
  pal240  : α
  deriving DecidableEq, Repr

/-- One value for each active frame height. -/
structure PerHeight (α : Type) where
  h192 : α
  h224 : α
  h240 : α
  deriving DecidableEq, Repr

/-- What one output pixel of a downscaler may be built from: BlendHalf and BlendThird of Pixel Buffer pixels and the
backdrop, and nothing else (46_frame_assembler R300 item 2). -/
inductive ScaleExpr
  | pixel (row col : Nat)
  | backdrop
  | half (a b : ScaleExpr)
  | third (a b c : ScaleExpr)
  deriving DecidableEq, Repr, Inhabited

/-- HW_SCALE, left OPEN by 46_frame_assembler R300: the spec's reference algorithm (R301), or some other algorithm, about
which only the contract of R300 is known. -/
inductive HwScale
  | reference
  | other
  deriving DecidableEq, Repr

/-- The construction parameters of 00_scope section 4. Fixed when the block is built: no step changes them. -/
structure Params where
  cramFormat     : CramFormat
  cyclesPerLine  : Nat
  lineIntTest    : LineIntTest
  mirrorOnR2Bit0 : Bool
  legacyEcShift  : LegacyEcShift
  cropY          : PerHeight Nat
  hwScale        : HwScale
  initVram       : Memory
  initCram       : Memory
  initPixels     : PixelBuffer
  regionLen      : PerProfile RegionLens
  vcThreshold    : PerProfile Nat
  vcJump         : PerProfile Nat
  hcCeiling      : Nat
  hcRestart      : Nat
  deriving DecidableEq, Repr

/-- The configuration inputs of 00_scope section 4: read by the block, never written by it (R9). -/
structure HostConfig where
  videoSystem               : VideoSystem
  verticalResolution        : Height
  resizingMode              : ResizingMode
  fixedPalette              : FixedPalette
  spriteCap                 : Nat
  zoomedSpriteCap           : Nat
  legacySpriteCap           : Nat
  supportsLineInterrupts    : Bool
  supportsMirroredNameTable : Bool
  earlyClockDefault         : Bool
  joinSpritesDefault        : Bool
  zoomDefault               : Bool
  backgroundLayerEnabled    : Bool
  deriving DecidableEq, Repr

/-- The unspecified contents of the Completed Frame Buffer after the `n`-th reset, at a row and a column: any value
(93_implementation_defined U1). A free value (log 8). -/
opaque Config.freeFramePixel : (n row col : Nat) → Colour

/-- The other downscalers: for a height, the source rows 0..H−1, the backdrop, an output row and an output column, the blend that
gives the pixel (46_frame_assembler R300, OPEN). A free value (log 10). -/
opaque Config.otherScale : (h : Height) → (source : List (List Colour)) → (bd : Colour) → (row col : Nat) → ScaleExpr

end Sys2Proof
end

