-- ==== Sys2Proof/Machine/Tables.lean ====
section
/-! DEFINITION. The spec's parameter defaults, the timing profiles and the counter tables built from the parameters
(00_scope section 4, 41_counter_tables). -/

namespace Sys2Proof

/-- The active frame height in lines. -/
def Height.toNat : Height → Nat
  | .h192 => 192
  | .h224 => 224
  | .h240 => 240

/-- LinesPerFrame: 262 for NTSC, 313 for PAL (41_counter_tables R140). -/
def linesPerFrame : TvSystem → Nat
  | .ntsc => 262
  | .pal => 313

/-- The frame-interrupt line of a height (42_beam R163). -/
def frameIntLine : Height → Nat
  | .h192 => 0xC1
  | .h224 => 0xE1
  | .h240 => 0xF1

/-- The value of a profile-indexed table. -/
def PerProfile.get {α : Type} (t : PerProfile α) : TvSystem → Height → α
  | .ntsc, .h192 => t.ntsc192
  | .ntsc, .h224 => t.ntsc224
  | .ntsc, .h240 => t.ntsc240
  | .pal, .h192 => t.pal192
  | .pal, .h224 => t.pal224
  | .pal, .h240 => t.pal240

/-- The value of a height-indexed table. -/
def PerHeight.get {α : Type} (t : PerHeight α) : Height → α
  | .h192 => t.h192
  | .h224 => t.h224
  | .h240 => t.h240

/-- The length of one region. -/
def RegionLens.get (l : RegionLens) : Region → Nat
  | .activeDisplay => l.activeDisplay
  | .bottomBorder => l.bottomBorder
  | .bottomBlanking => l.bottomBlanking
  | .verticalBlanking => l.verticalBlanking
  | .topBlanking => l.topBlanking
  | .topBorder => l.topBorder

/-- The lines of all six regions together. -/
def RegionLens.sum (l : RegionLens) : Nat :=
  l.activeDisplay + l.bottomBorder + l.bottomBlanking + l.verticalBlanking + l.topBlanking + l.topBorder

/-- The region that follows (42_beam R173). -/
def Region.next : Region → Region
  | .activeDisplay => .bottomBorder
  | .bottomBorder => .bottomBlanking
  | .bottomBlanking => .verticalBlanking
  | .verticalBlanking => .topBlanking
  | .topBlanking => .topBorder
  | .topBorder => .activeDisplay

/-- REGION_LEN of 41_counter_tables R141. -/
def defaultRegionLen : PerProfile RegionLens where
  ntsc192 := ⟨192, 24, 3, 3, 13, 27⟩
  ntsc224 := ⟨224, 8, 3, 3, 13, 11⟩
  ntsc240 := ⟨240, 0, 0, 22, 0, 0⟩
  pal192 := ⟨192, 48, 3, 3, 13, 54⟩
  pal224 := ⟨224, 32, 3, 3, 13, 38⟩
  pal240 := ⟨240, 0, 0, 73, 0, 0⟩

/-- VC_THRESHOLD of 41_counter_tables R144. -/
def defaultVcThreshold : PerProfile Nat where
  ntsc192 := 0x0DA
  ntsc224 := 0x0EA
  ntsc240 := 0x105
  pal192 := 0x0F2
  pal224 := 0x102
  pal240 := 0x10A

/-- VC_JUMP of 41_counter_tables R144. -/
def defaultVcJump : PerProfile Nat where
  ntsc192 := 0x1D5
  ntsc224 := 0x1E5
  ntsc240 := 0x106
  pal192 := 0x1BA
  pal224 := 0x1CA
  pal240 := 0x1D2

/-- A line of one colour. -/
def Row.fill (c : Colour) : Row := Vector.replicate 256 c

/-- The line whose pixel at column `x` is `f x`. -/
def Row.ofColumns (f : Nat → Colour) : Row := Vector.ofFn fun x : Fin 256 => f x.val

/-- The default INIT_PIXELS: all 0x00000000 (00_scope section 4). -/
def blankPixels : PixelBuffer := Vector.replicate 240 (Row.fill 0)

/-- The defaults of 00_scope section 4. -/
def Params.default : Params where
  cramFormat := .sms
  cyclesPerLine := 228
  lineIntTest := .afterDecrement
  mirrorOnR2Bit0 := true
  legacyEcShift := .by8
  cropY := ⟨24, 40, 48⟩
  hwScale := .reference
  initVram := []
  initCram := []
  initPixels := blankPixels
  regionLen := defaultRegionLen
  vcThreshold := defaultVcThreshold
  vcJump := defaultVcJump
  hcCeiling := 0x93
  hcRestart := 0xE9

/-- The default configuration of 95_test_vectors.md (log 6). -/
def HostConfig.default : HostConfig where
  videoSystem := .ntsc
  verticalResolution := .h192
  resizingMode := .normal
  fixedPalette := .tms9918
  spriteCap := 8
  zoomedSpriteCap := 8
  legacySpriteCap := 4
  supportsLineInterrupts := true
  supportsMirroredNameTable := true
  earlyClockDefault := false
  joinSpritesDefault := false
  zoomDefault := false
  backgroundLayerEnabled := true

/-- CRAM_SIZE (00_scope section 4). -/
def CramFormat.size : CramFormat → Nat
  | .sms => 32
  | .gg => 64

/-- LEGACY_EC_SHIFT in pixels (45_sprites R267). -/
def LegacyEcShift.pixels : LegacyEcShift → Nat
  | .by8 => 8
  | .by32 => 32

/-- BuildV of 41_counter_tables R143: `rows` bytes from the pre-mask value `v` on, with the one forward jump. -/
def buildV (threshold jump : Nat) : (rows v : Nat) → List Byte
  | 0, _ => []
  | rows + 1, v => BitVec.ofNat 8 v :: buildV threshold jump rows (if v = threshold then jump else v + 1)

/-- `VTable[p]` (41_counter_tables R143). -/
def vTable (p : Params) (sys : TvSystem) (h : Height) : List Byte :=
  buildV (p.vcThreshold.get sys h) (p.vcJump.get sys h) (linesPerFrame sys) 0

/-- One entry of BuildH (41_counter_tables R146). DESIGN CHOICE (log 28): R146 has no mask, and with other parameters than the spec's
an entry can leave a byte; it is then taken modulo 256. -/
def hEntry (ceiling restart i : Nat) : Byte :=
  let k := 3 * i / 4
  BitVec.ofNat 8 (if k ≤ ceiling then k else restart + (k - ceiling - 1))

/-- `HTable` (41_counter_tables R146). -/
def hTable (p : Params) : List Byte :=
  (List.range p.cyclesPerLine).map (hEntry p.hcCeiling p.hcRestart)

end Sys2Proof
end

