-- ==== Sys2Proof/WellFormed.lean ====
section
/-! DEFINITION. Which instructions and which construction parameters the spec allows. -/

namespace Sys2Proof

/-- The renderer selections carry Hsel, and "the value Hsel = 3 never occurs" (30_encoding R82). The operands of the
commands have the exact widths of their fields, so every command is well-formed. -/
def Instr.wellFormed : Instr → Bool
  | .mode4 hsel _ _ _ => hsel != 3
  | .graphics1 hsel => hsel != 3
  | .graphics2 hsel => hsel != 3
  | .multicolour hsel => hsel != 3
  | .text hsel => hsel != 3
  | .fallback3 hsel => hsel != 3
  | .fallback5 hsel => hsel != 3
  | .fallback6 hsel => hsel != 3
  | .fallback7 hsel => hsel != 3
  | .nop => true
  | .regwr _ _ => true
  | .vramwr _ _ => true
  | .vramrd _ => true
  | .cramwr _ _ => true
  | .cramrd _ => true
  | .statrd => true
  | .flagclr _ => true
  | .vcntrd => true
  | .hcntrd => true
  | .irqrd => true
  | .line => true
  | .framerd _ _ => true
  | .framedim => true
  | .illegalE => true
  | .illegalF => true

/-- REGION_LEN of one profile: the ActiveDisplay length is H, the six lengths sum to the frame (41_counter_tables R142),
and each fits RegionRemaining, an integer in 0..255 (10_state R40). -/
def regionLenOk (p : Params) (sys : TvSystem) (h : Height) : Bool :=
  let l := p.regionLen.get sys h
  (l.activeDisplay == h.toNat) && (l.sum == linesPerFrame sys) &&
    [l.activeDisplay, l.bottomBorder, l.bottomBlanking, l.verticalBlanking, l.topBlanking, l.topBorder].all
      fun n => decide (n ≤ 255)

/-- `0 ≤ CROP_Y(H) ≤ H − 144` (46_frame_assembler R299). -/
def cropYOk (p : Params) (h : Height) : Bool := decide (p.cropY.get h ≤ h.toNat - 144)

/-- The vertical counter's jump goes forward (41_counter_tables R143). -/
def jumpOk (p : Params) (sys : TvSystem) (h : Height) : Bool :=
  decide (p.vcThreshold.get sys h < p.vcJump.get sys h)

/-- The six timing profiles (41_counter_tables R140). -/
def profiles : List (TvSystem × Height) :=
  [(.ntsc, .h192), (.ntsc, .h224), (.ntsc, .h240), (.pal, .h192), (.pal, .h224), (.pal, .h240)]

/-- The parameter values the spec allows. -/
def Params.wellFormed (p : Params) : Bool :=
  profiles.all (fun q => regionLenOk p q.1 q.2) &&
  profiles.all (fun q => jumpOk p q.1 q.2) &&
  [Height.h192, Height.h224, Height.h240].all (cropYOk p) &&
  decide (0 < p.cyclesPerLine) &&
  p.initVram.wf && p.initVram.within 0x4000 &&
  p.initCram.wf && p.initCram.within p.cramFormat.size

end Sys2Proof
end

