-- ==== Sys2Proof/Decode.lean ====
section
/-! DEFINITION. The two encoding spaces of the block, the decoder, and the encoder after it: the 32-bit host command word
(30_encoding R80, R81, R86) and the 6-bit mode vector (30_encoding R82). -/

namespace Sys2Proof

/-- A command word, or a mode vector `(Hsel[1:0], M4, M3, M2, M1)`. -/
inductive Encoded
  | command (w : Word)
  | mode (v : BitVec 6)
  deriving DecidableEq, Repr

/-- Why a decoder gives no instruction. -/
inductive DecodeError
  /-- A mode vector with Hsel = 3, which never occurs (30_encoding R82). -/
  | hselThree
  deriving DecidableEq, Repr

/-- OP, bits 31:28 (30_encoding R80). -/
def opField (w : Word) : BitVec 4 := w.extractLsb' 28 4

/-- A, bits 21:8. -/
def aField (w : Word) : BitVec 14 := w.extractLsb' 8 14

/-- D, bits 7:0. -/
def dField (w : Word) : Byte := w.extractLsb' 0 8

/-- The low bits of A that are a register index: `A & 0x0F` (30_encoding R81). -/
def aIndex (w : Word) : BitVec 4 := w.extractLsb' 8 4

/-- The low byte of A: the row of `FRAMERD` (30_encoding R98). -/
def aByte (w : Word) : Byte := w.extractLsb' 8 8

/-- The low four bits of D: the mask of `FLAGCLR` (30_encoding R97). -/
def dMask (w : Word) : BitVec 4 := w.extractLsb' 0 4

/-- The command a word stands for: OP alone selects it, and RSV and unused operand bits are ignored (30_encoding R81, R86). -/
def decodeCommand (w : Word) : Instr :=
  match (opField w).toNat with
  | 0x0 => .nop
  | 0x1 => .regwr (aIndex w) (dField w)
  | 0x2 => .vramwr (aField w) (dField w)
  | 0x3 => .vramrd (aField w)
  | 0x4 => .cramwr (aField w) (dField w)
  | 0x5 => .cramrd (aField w)
  | 0x6 => .statrd
  | 0x7 => .flagclr (dMask w)
  | 0x8 => .vcntrd
  | 0x9 => .hcntrd
  | 0xA => .irqrd
  | 0xB => .line
  | 0xC => .framerd (dField w) (aByte w)
  | 0xD => .framedim
  | 0xE => .illegalE
  | _ => .illegalF

/-- Hsel, bits 5:4 of the mode vector. -/
def hselField (v : BitVec 6) : BitVec 2 := v.extractLsb' 4 2

/-- The renderer a mode vector selects, by the table of 30_encoding R82. -/
def selectRenderer (v : BitVec 6) : Instr :=
  if v.getLsbD 3 then .mode4 (hselField v) (v.getLsbD 2) (v.getLsbD 1) (v.getLsbD 0)
  else
    match v.getLsbD 2, v.getLsbD 1, v.getLsbD 0 with
    | false, false, false => .graphics1 (hselField v)
    | false, true, false => .graphics2 (hselField v)
    | true, false, false => .multicolour (hselField v)
    | false, false, true => .text (hselField v)
    | false, true, true => .fallback3 (hselField v)
    | true, false, true => .fallback5 (hselField v)
    | true, true, false => .fallback6 (hselField v)
    | true, true, true => .fallback7 (hselField v)

/-- The decoder: every command word is an instruction; a mode vector is one unless its Hsel is 3. -/
def decode : Encoded → Except DecodeError Instr
  | .command w => .ok (decodeCommand w)
  | .mode v => if hselField v = 3 then .error .hselThree else .ok (selectRenderer v)

/-- A command word from its fields, RSV zero (30_encoding R80, R84). -/
def commandWord (op : BitVec 4) (a : BitVec 14) (d : Byte) : Word :=
  op.setWidth 32 <<< 28 ||| a.setWidth 32 <<< 8 ||| d.setWidth 32

/-- A mode vector from its fields. -/
def modeVector (hsel : BitVec 2) (m4 m3 m2 m1 : Bool) : BitVec 6 :=
  hsel ++ BitVec.ofBool m4 ++ BitVec.ofBool m3 ++ BitVec.ofBool m2 ++ BitVec.ofBool m1

/-- The encoder (30_encoding R81, R82, R84): zero in every bit the instruction does not use. -/
def encode : Instr → Encoded
  | .nop => .command (commandWord 0x0 0 0)
  | .regwr r v => .command (commandWord 0x1 (r.setWidth 14) v)
  | .vramwr a v => .command (commandWord 0x2 a v)
  | .vramrd a => .command (commandWord 0x3 a 0)
  | .cramwr a v => .command (commandWord 0x4 a v)
  | .cramrd a => .command (commandWord 0x5 a 0)
  | .statrd => .command (commandWord 0x6 0 0)
  | .flagclr m => .command (commandWord 0x7 0 (m.setWidth 8))
  | .vcntrd => .command (commandWord 0x8 0 0)
  | .hcntrd => .command (commandWord 0x9 0 0)
  | .irqrd => .command (commandWord 0xA 0 0)
  | .line => .command (commandWord 0xB 0 0)
  | .framerd x y => .command (commandWord 0xC (y.setWidth 14) x)
  | .framedim => .command (commandWord 0xD 0 0)
  | .illegalE => .command (commandWord 0xE 0 0)
  | .illegalF => .command (commandWord 0xF 0 0)
  | .mode4 hsel m3 m2 m1 => .mode (modeVector hsel true m3 m2 m1)
  | .graphics1 hsel => .mode (modeVector hsel false false false false)
  | .graphics2 hsel => .mode (modeVector hsel false false true false)
  | .multicolour hsel => .mode (modeVector hsel false true false false)
  | .text hsel => .mode (modeVector hsel false false false true)
  | .fallback3 hsel => .mode (modeVector hsel false false true true)
  | .fallback5 hsel => .mode (modeVector hsel false true false true)
  | .fallback6 hsel => .mode (modeVector hsel false true true false)
  | .fallback7 hsel => .mode (modeVector hsel false true true true)

/-- The fixed bits of an instruction's row in the opcode table: mask, and the value under it. For the commands they are those
of the 32-bit word (30_encoding R81), for the renderer selections those of the mode vector (R82). -/
def Instr.fixedBits : Instr → Nat × Nat
  | .nop => (0xF0000000, 0x00000000)
  | .regwr _ _ => (0xF0000000, 0x10000000)
  | .vramwr _ _ => (0xF0000000, 0x20000000)
  | .vramrd _ => (0xF0000000, 0x30000000)
  | .cramwr _ _ => (0xF0000000, 0x40000000)
  | .cramrd _ => (0xF0000000, 0x50000000)
  | .statrd => (0xF0000000, 0x60000000)
  | .flagclr _ => (0xF0000000, 0x70000000)
  | .vcntrd => (0xF0000000, 0x80000000)
  | .hcntrd => (0xF0000000, 0x90000000)
  | .irqrd => (0xF0000000, 0xA0000000)
  | .line => (0xF0000000, 0xB0000000)
  | .framerd _ _ => (0xF0000000, 0xC0000000)
  | .framedim => (0xF0000000, 0xD0000000)
  | .illegalE => (0xF0000000, 0xE0000000)
  | .illegalF => (0xF0000000, 0xF0000000)
  | .mode4 _ _ _ _ => (0x08, 0x08)
  | .graphics1 _ => (0x0F, 0x00)
  | .graphics2 _ => (0x0F, 0x02)
  | .multicolour _ => (0x0F, 0x04)
  | .text _ => (0x0F, 0x01)
  | .fallback3 _ => (0x0F, 0x03)
  | .fallback5 _ => (0x0F, 0x05)
  | .fallback6 _ => (0x0F, 0x06)
  | .fallback7 _ => (0x0F, 0x07)

/-- The bits of an encoding as a number. -/
def Encoded.bits : Encoded → Nat
  | .command w => w.toNat
  | .mode v => v.toNat

/-- The bits `w` of a table row, in the encoding space that `nbits` names: a row of at most one byte is a mode vector, a
longer one a command word (log 20). Bits the space does not have make no instruction. -/
def tableWord (nbits w : Nat) : Option Encoded :=
  if nbits ≤ 8 then (if w < 64 then some (.mode (BitVec.ofNat 6 w)) else none)
  else if w < 2 ^ 32 then some (.command (BitVec.ofNat 32 w)) else none

/-- The instruction the decoder reads from a row's bits. -/
def decodeTableWord (nbits w : Nat) : Option Instr :=
  match tableWord nbits w with
  | none => none
  | some e =>
    match decode e with
    | .ok i => some i
    | .error _ => none

/-- The pseudo-instructions of the assembler (30_encoding R84). -/
inductive Pseudo
  | lines (n : Nat)
  | ack
  | vfill (a n : Nat) (v : Byte)
  | vwrite (a : Nat) (bytes : List Byte)
  deriving DecidableEq, Repr

/-- `VRAMWR` at consecutive addresses, each masked `& 0x3FFF` (30_encoding R84). -/
def vramwrFrom (a : Nat) : List Byte → List Instr
  | [] => []
  | b :: rest => .vramwr (BitVec.ofNat 14 a) b :: vramwrFrom (a + 1) rest

/-- The fixed expansion of a pseudo-instruction (30_encoding R84). -/
def Pseudo.expand : Pseudo → List Instr
  | .lines n => List.replicate n .line
  | .ack => [.statrd, .flagclr 0xF]
  | .vfill a n v => vramwrFrom a (List.replicate n v)
  | .vwrite a bytes => vramwrFrom a bytes

/-- An operand list in assembler text: decimal numbers, separated by commas. -/
def operandText : List Nat → String
  | [] => ""
  | [n] => toString n
  | n :: rest => toString n ++ ", " ++ operandText rest

/-- One command in the assembler's syntax (30_encoding R84). The illegal OPs and the renderer selections have no line of
assembler text. -/
def Instr.assembly : Instr → Option String
  | .nop => some "NOP"
  | .regwr r v => some ("REGWR " ++ operandText [r.toNat, v.toNat])
  | .vramwr a v => some ("VRAMWR " ++ operandText [a.toNat, v.toNat])
  | .vramrd a => some ("VRAMRD " ++ operandText [a.toNat])
  | .cramwr a v => some ("CRAMWR " ++ operandText [a.toNat, v.toNat])
  | .cramrd a => some ("CRAMRD " ++ operandText [a.toNat])
  | .statrd => some "STATRD"
  | .flagclr m => some ("FLAGCLR " ++ operandText [m.toNat])
  | .vcntrd => some "VCNTRD"
  | .hcntrd => some "HCNTRD"
  | .irqrd => some "IRQRD"
  | .line => some "LINE"
  | .framerd x y => some ("FRAMERD " ++ operandText [x.toNat, y.toNat])
  | .framedim => some "FRAMEDIM"
  | .illegalE => none
  | .illegalF => none
  | .mode4 _ _ _ _ => none
  | .graphics1 _ => none
  | .graphics2 _ => none
  | .multicolour _ => none
  | .text _ => none
  | .fallback3 _ => none
  | .fallback5 _ => none
  | .fallback6 _ => none
  | .fallback7 _ => none

end Sys2Proof
end

