-- ==== Sys2Proof/Machine/State.lean ====
section
/-! DEFINITION. The state of the block (10_state), its inputs and its step outputs, as plain data; the state after reset. -/

namespace Sys2Proof.Machine

/-- Why a step of the model stops. It never does: the spec's two faults are states the block enters (60_exceptions R320),
and "nothing else faults" (R323), so there is no reason to list (log 18). -/
inductive Fault
  deriving DecidableEq, Repr

/-- Why a step of the model has no meaning. -/
inductive Refusal
  /-- Raised by an arm of `exec` for an instruction without a meaning yet. Safe: nothing is claimed of it. -/
  | notModelled (mnemonic : String)
  deriving DecidableEq, Repr

/-- The spec's fault reasons (60_exceptions R320). -/
inductive FaultReason
  /-- A command word with OP 0xE or 0xF (R321). -/
  | illegalCommand
  /-- A BeginFrame while cfg.VideoSystem is Invalid (R322). -/
  | configInvalid
  deriving DecidableEq, Repr

/-- One thing the host presents to the block (log 1). -/
inductive HostInput
  /-- A command word, with the value of the `cycle` input while it runs (40_host_ops R110, 10_state R49). -/
  | command (word : Word) (cycle : Cycle)
  /-- A change of the configuration inputs between two commands (00_scope R9). -/
  | configure (cfg : HostConfig)
  /-- The reset input, with the value of the `cycle` input (70_reset R350). -/
  | reset (cycle : Cycle)
  deriving DecidableEq, Repr

/-- The inputs of the block: the configuration record, the `cycle` input, and what the host will present next, in order. -/
structure Inputs where
  cfg     : HostConfig
  cycle   : Cycle
  pending : List HostInput
  deriving DecidableEq, Repr

/-- The outputs of the latest step: the result word (40_host_ops R125) and the IrqEvaluate pulse (42_beam R172). -/
structure Outputs where
  rd          : Word
  irqEvaluate : Bool
  deriving DecidableEq, Repr

/-- The contents of the Completed Frame Buffer. -/
inductive FrameImage
  /-- Unspecified: not written since the `n`-th reset (46_frame_assembler R303; log 8). -/
  | unspecified (n : Nat)
  /-- The image of the latest EndFrame, row by row. -/
  | assembled (rows : List (List Colour))
  deriving DecidableEq, Repr

/-- The Completed Frame Buffer FB with its dimensions FW and FH (10_state R38). -/
structure FrameBuffer where
  image  : FrameImage
  width  : Nat
  height : Nat
  deriving DecidableEq, Repr

/-- The position in the frame (10_state R39, R40, R41, R53): Region, RegionRemaining and SD. -/
structure Beam where
  region    : Region
  remaining : Nat
  sd        : Nat
  deriving DecidableEq, Repr

/-- What BeginFrame latches (10_state R43, R44, R45). -/
structure Latched where
  sys     : TvSystem
  h       : Height
  yScroll : Byte
  resize  : ResizingMode
  outW    : Nat
  outH    : Nat
  deriving DecidableEq, Repr

/-- The status flags and the captured sprite index (10_state R47). -/
structure Flags where
  framePending    : Bool
  linePending     : Bool
  spriteOverflow  : Bool
  spriteCollision : Bool
  overflowIndex   : BitVec 6
  deriving DecidableEq, Repr

/-- The per-line scratch arrays (10_state R52). Index `x` of CollL is bit `x + 32` of `collL`. -/
structure Scratch where
  fg       : BitVec 256
  sprDrawn : BitVec 256
  collM    : BitVec 256
  collL    : BitVec 320
  deriving DecidableEq, Repr

structure State where
  /-- Construction parameters; no step changes them (00_scope section 4). -/
  params          : Params
  inputs          : Inputs
  /-- The Register Bank R[0]..R[15] (10_state R20). -/
  regs            : Vector Byte 16
  /-- VRAM (10_state R35). -/
  vram            : Memory
  /-- CRAM, by bytes (10_state R36). -/
  cram            : Memory
  /-- The Pixel Buffer PB (10_state R37). -/
  pb              : PixelBuffer
  frame           : FrameBuffer
  beam            : Beam
  /-- LineCounter, signed (10_state R42). -/
  lineCounter     : Int
  /-- LineStartCycles (10_state R48). -/
  lineStartCycles : Cycle
  latched         : Latched
  /-- CachedBackdrop (10_state R46). -/
  cachedBackdrop  : Colour
  flags           : Flags
  /-- Faulted and FaultReason (10_state R50): `none` is Faulted = 0 (log 17). -/
  fault           : Option FaultReason
  scratch         : Scratch
  outputs         : Outputs
  /-- The model's own counter: which unspecified frame image the next reset takes (log 8). -/
  freeFrames      : Nat
  deriving DecidableEq, Repr

/-- All scratch bits clear (42_beam R167). -/
def Scratch.clear : Scratch := ⟨0, 0, 0, 0⟩

/-- The state right after reset (10_state R54, 70_reset R350), with the spec's parameter defaults, its default configuration
and `cycle` = 0 at reset (logs 5, 6, 7); nothing pending (log 3). -/
def State.reset : State where
  params := Params.default
  inputs := ⟨HostConfig.default, 0, []⟩
  regs := Vector.replicate 16 0
  vram := []
  cram := []
  pb := blankPixels
  frame := ⟨.unspecified 0, 256, 192⟩
  beam := ⟨.activeDisplay, 192, 0⟩
  lineCounter := 0
  lineStartCycles := 0
  latched := ⟨.ntsc, .h192, 0, .normal, 256, 192⟩
  cachedBackdrop := 0xFF000000
  flags := ⟨false, false, false, false, 0⟩
  fault := none
  scratch := Scratch.clear
  outputs := ⟨0, false⟩
  freeFrames := 1

end Sys2Proof.Machine
end

