-- ==== Sys2Proof/Machine/Ops.lean ====
section
/-! DEFINITION. The named operations over registers, memories, buffers and outputs; taking a fault (60_exceptions R320);
BeginFrame (42_beam R161) and reset (70_reset R350). -/

namespace Sys2Proof.Machine

/-- `R[i]` (00_scope R12). -/
def State.reg (s : State) (i : Fin 16) : Byte := s.regs[i]

/-- `R[i]` as a non-negative integer. -/
def State.regNat (s : State) (i : Fin 16) : Nat := (s.reg i).toNat

/-- `R[r] <- v`, all 8 bits stored (40_host_ops R111). -/
def State.setReg (s : State) (r : BitVec 4) (v : Byte) : State :=
  { s with regs := s.regs.set r.toNat v r.isLt }

/-- `VRAM[a]`: the address wraps at 0x4000 (20_memory R61). -/
def State.vramByte (s : State) (a : Nat) : Byte := s.vram.read (a % 0x4000)

/-- `VRAM[a]` as a non-negative integer. -/
def State.vramNat (s : State) (a : Nat) : Nat := (s.vramByte a).toNat

/-- `VRAM[a] <- v`. -/
def State.setVram (s : State) (a : Nat) (v : Byte) : State :=
  { s with vram := s.vram.write (a % 0x4000) v }

/-- CRAM_SIZE (00_scope section 4). -/
def State.cramSize (s : State) : Nat := s.params.cramFormat.size

/-- `CRAMB[a]`: the address is reduced modulo CRAM_SIZE (20_memory R62). -/
def State.cramByte (s : State) (a : Nat) : Byte := s.cram.read (a % s.cramSize)

/-- `CRAMB[a] <- v`. -/
def State.setCram (s : State) (a : Nat) (v : Byte) : State :=
  { s with cram := s.cram.write (a % s.cramSize) v }

/-- A Pixel Buffer line; a line the buffer does not have reads as black without alpha (log 16). -/
def State.pbRow (s : State) (y : Nat) : Row := s.pb[y]?.getD (Row.fill 0)

/-- `PB[y][x]` (00_scope R12). -/
def State.pixel (s : State) (y x : Nat) : Colour := (s.pbRow y)[x]?.getD 0

/-- Replace line `y` of the Pixel Buffer. -/
def State.setRow (s : State) (y : Nat) (row : Row) : State := { s with pb := s.pb.setIfInBounds y row }

/-- One pixel of a frame image: unspecified contents are free values (log 8). -/
def FrameImage.pixel : FrameImage → (y x : Nat) → Colour
  | .unspecified n, y, x => Config.freeFramePixel n y x
  | .assembled rows, y, x => ((rows[y]?.getD [])[x]?).getD 0

/-- `RD` of a command: the result word, and no pulse (40_host_ops R125). -/
def State.answer (s : State) (rd : Word) : State := { s with outputs := ⟨rd, false⟩ }

/-- `emit IrqEvaluate` at the end of a line step (42_beam R172). -/
def State.pulse (s : State) : State := { s with outputs := { s.outputs with irqEvaluate := true } }

/-- Faulted = 1 (10_state R50). -/
def State.faulted (s : State) : Bool := s.fault.isSome

/-- `raise Fault(reason)`: Faulted and FaultReason are set together (60_exceptions R320). The caller stops. -/
def State.raiseFault (s : State) (reason : FaultReason) : State := { s with fault := some reason }

/-- `OutputDims(mode, H)` (42_beam R162). -/
def outputDims : ResizingMode → Height → Nat × Nat
  | .normal, h => (256, h.toNat)
  | .cropped, _ => (160, 144)
  | .scaled, _ => (160, 144)

/-- YScrollLatched of a BeginFrame: R[9] modulo 224 at 192 lines (42_beam R161). -/
def latchYScroll (h : Height) (r9 : Byte) : Byte :=
  match h with
  | .h192 => BitVec.ofNat 8 (r9.toNat % 224)
  | .h224 => r9
  | .h240 => r9

/-- What BeginFrame latches when the video system is valid (42_beam R161). -/
def State.latchFrame (s : State) (sys : TvSystem) : State :=
  let cfg := s.inputs.cfg
  let h := cfg.verticalResolution
  { s with
    beam := { s.beam with sd := 0 }
    latched :=
      { sys := sys, h := h, yScroll := latchYScroll h (s.reg 9), resize := cfg.resizingMode,
        outW := (outputDims cfg.resizingMode h).1, outH := (outputDims cfg.resizingMode h).2 }
    cachedBackdrop := 0xFF000000 }

/-- BeginFrame (42_beam R161): the new state, or the fault it raises first of all. -/
def State.beginFrame (s : State) : Except FaultReason State :=
  match s.inputs.cfg.videoSystem with
  | .ntsc => .ok (s.latchFrame .ntsc)
  | .pal => .ok (s.latchFrame .pal)
  | .invalid => .error .configInvalid

/-- REGION_LEN of the latched profile (41_counter_tables R141). -/
def State.regionLen (s : State) (r : Region) : Nat :=
  (s.params.regionLen.get s.latched.sys s.latched.h).get r

/-- The part of the reset procedure before its BeginFrame, with the provisional profile (70_reset R350). It is the whole procedure when
that BeginFrame faults: FW and FH are then 256 and 192 (95_test_vectors X4), and FB is replaced by unspecified contents, although R350
stops before the line that writes it (DESIGN CHOICE, log 8). -/
def State.resetBase (s : State) (c : Cycle) : State where
  params := s.params
  inputs := { s.inputs with cycle := c }
  regs := ((Vector.replicate 16 0).set 0 (BitVec.ofNat 8 (s.inputs.cfg.earlyClockDefault.toNat <<< 3))).set 1
    (BitVec.ofNat 8 (s.inputs.cfg.joinSpritesDefault.toNat <<< 1 ||| s.inputs.cfg.zoomDefault.toNat))
  vram := s.params.initVram
  cram := s.params.initCram
  pb := s.params.initPixels
  frame := ⟨.unspecified s.freeFrames, 256, 192⟩
  beam := ⟨.activeDisplay, 192, 0⟩
  lineCounter := 0
  lineStartCycles := c
  latched := ⟨.ntsc, .h192, 0, .normal, 256, 192⟩
  cachedBackdrop := 0xFF000000
  flags := ⟨false, false, false, false, 0⟩
  fault := none
  scratch := Scratch.clear
  outputs := ⟨0, false⟩
  freeFrames := s.freeFrames + 1

/-- `Reset(c)` (70_reset R350). If its BeginFrame faults, the block is left Faulted with the provisional values; the frame
buffer's contents are unspecified and its dimensions those of the reset BeginFrame. -/
def State.resetBlock (s : State) (c : Cycle) : State :=
  let b := s.resetBase c
  match b.beginFrame with
  | .error r => b.raiseFault r
  | .ok f =>
    { f with
      beam := { f.beam with remaining := f.regionLen .activeDisplay }
      frame := { f.frame with width := f.latched.outW, height := f.latched.outH } }

/-- A command refused while Faulted: RD = 0 and no state change (40_host_ops R110, R125). -/
def State.refuseCommand (s : State) : State := s.answer 0

/-- The host presents a command: it leaves the pending inputs, and its `cycle` sample stands at the input. -/
def State.present (s : State) (c : Cycle) (rest : List HostInput) : State :=
  { s with inputs := { s.inputs with cycle := c, pending := rest } }

/-- The host changes the configuration inputs; the block does nothing (00_scope R9; log 1). -/
def State.configure (s : State) (cfg : HostConfig) (rest : List HostInput) : State :=
  { s with inputs := { s.inputs with cfg := cfg, pending := rest }, outputs := ⟨0, false⟩ }

/-- Reset applied as the next input (70_reset R350; log 19). -/
def State.applyReset (s : State) (c : Cycle) (rest : List HostInput) : State :=
  { s with inputs := { s.inputs with pending := rest } }.resetBlock c

/-- Nothing pending: the block waits, and its outputs are quiet (70_reset R351, 60_exceptions R336; log 2). -/
def State.idle (s : State) : State := s.answer 0

end Sys2Proof.Machine
end

