-- ==== Sys2Proof/Machine/Flags.lean ====
section
/-! DEFINITION. The status flags: the status word, the FLAGCLR mask, the interrupt line (30_encoding R96, R97;
60_exceptions R325). -/

namespace Sys2Proof.Machine

/-- `b` as bit `n` of a word. -/
def flagBit (b : Bool) (n : Nat) : Word := if b then BitVec.twoPow 32 n else 0

/-- The status word of `STATRD` (30_encoding R96, 40_host_ops R116). -/
def Flags.statusWord (f : Flags) : Word :=
  flagBit f.framePending 7 ||| flagBit f.spriteOverflow 6 ||| flagBit f.spriteCollision 5 |||
    (f.overflowIndex.setWidth 32 &&& 0x1F) ||| flagBit f.linePending 8 ||| f.overflowIndex.setWidth 32 <<< 9

/-- `FLAGCLR`: D[0] clears FramePending, D[1] LinePending, D[2] SpriteOverflow, D[3] SpriteCollision; OverflowIndex stays
(30_encoding R97). -/
def Flags.clear (f : Flags) (m : BitVec 4) : Flags :=
  { f with
    framePending := f.framePending && !m.getLsbD 0
    linePending := f.linePending && !m.getLsbD 1
    spriteOverflow := f.spriteOverflow && !m.getLsbD 2
    spriteCollision := f.spriteCollision && !m.getLsbD 3 }

/-- IE0 = R[1] bit 5 (10_state R34). -/
def State.ie0 (s : State) : Bool := (s.reg 1).getLsbD 5

/-- IE1 = R[0] bit 4 (10_state R34). -/
def State.ie1 (s : State) : Bool := (s.reg 0).getLsbD 4

/-- `IRQ()` (60_exceptions R325). -/
def State.irq (s : State) : Bool := (s.flags.framePending && s.ie0) || (s.flags.linePending && s.ie1)

/-- What one sprite pass leaves in the flags: they are only ever set; OverflowIndex is written on overflow
(45_sprites R255, R258, R273). -/
def Flags.afterSprites (f : Flags) (collision : Bool) (overflow : Option Nat) : Flags :=
  match overflow with
  | none => { f with spriteCollision := f.spriteCollision || collision }
  | some i =>
    { f with
      spriteCollision := f.spriteCollision || collision
      spriteOverflow := true
      overflowIndex := BitVec.ofNat 6 i }

end Sys2Proof.Machine
end

