-- ==== Sys2Proof/Machine/Operands.lean ====
section
/-! DEFINITION. The fields of the control registers, live, by name (10_state R23 to R34), and the table bases they give. -/

namespace Sys2Proof.Machine

/-- VSL = R[0] bit 7: vertical-scroll lock. -/
def State.vsl (s : State) : Bool := (s.reg 0).getLsbD 7

/-- HSL = R[0] bit 6: horizontal-scroll lock. -/
def State.hsl (s : State) : Bool := (s.reg 0).getLsbD 6

/-- LCB = R[0] bit 5: left-column blank. -/
def State.lcb (s : State) : Bool := (s.reg 0).getLsbD 5

/-- EC = R[0] bit 3: Mode 4 sprite early clock. -/
def State.ec (s : State) : Bool := (s.reg 0).getLsbD 3

/-- M4 = R[0] bit 2. -/
def State.m4 (s : State) : Bool := (s.reg 0).getLsbD 2

/-- M2 = R[0] bit 1. -/
def State.m2 (s : State) : Bool := (s.reg 0).getLsbD 1

/-- BLK = R[1] bit 6: display enable. -/
def State.blk (s : State) : Bool := (s.reg 1).getLsbD 6

/-- M1 = R[1] bit 4. -/
def State.m1 (s : State) : Bool := (s.reg 1).getLsbD 4

/-- M3 = R[1] bit 3. -/
def State.m3 (s : State) : Bool := (s.reg 1).getLsbD 3

/-- SIZE = R[1] bit 1. -/
def State.size (s : State) : Bool := (s.reg 1).getLsbD 1

/-- MAG = R[1] bit 0. -/
def State.mag (s : State) : Bool := (s.reg 1).getLsbD 0

/-- Mode 4 name-table base (10_state R25, 43_background_mode4 R192). -/
def State.nameBase4 (s : State) : Nat :=
  match s.latched.h with
  | .h192 => (s.regNat 2 &&& 0x0E) <<< 10
  | .h224 => ((s.regNat 2 &&& 0x0C) <<< 10) ||| 0x700
  | .h240 => ((s.regNat 2 &&& 0x0C) <<< 10) ||| 0x700

/-- Legacy name-table base (10_state R25). -/
def State.nameBase (s : State) : Nat := (s.regNat 2 &&& 0x0F) <<< 10

/-- Graphics I colour-table base (10_state R26). -/
def State.colourBase (s : State) : Nat := s.regNat 3 <<< 6

/-- Pattern-generator base of Graphics I, Text and Multicolour (10_state R27). -/
def State.patternBase (s : State) : Nat := (s.regNat 4 &&& 0x07) <<< 11

/-- Mode 4 sprite-attribute-table base (10_state R28). -/
def State.sat4 (s : State) : Nat := (s.regNat 5 &&& 0x7E) <<< 7

/-- Legacy sprite-attribute-table base (10_state R28). -/
def State.sat (s : State) : Nat := (s.regNat 5 &&& 0x7F) <<< 7

/-- Mode 4 sprite-pattern base (10_state R29). -/
def State.spriteBase4 (s : State) : Nat := (s.regNat 6 &&& 0x04) <<< 11

/-- Legacy sprite-pattern base (10_state R29). -/
def State.spriteBase (s : State) : Nat := (s.regNat 6 &&& 0x07) <<< 11

/-- Backdrop colour index: R[7] bits 3:0 (10_state R30). -/
def State.backdropIndex (s : State) : Nat := s.regNat 7 &&& 0x0F

/-- Hsel of the latched height (30_encoding R82). -/
def hselOf : Height → BitVec 2
  | .h192 => 0
  | .h224 => 1
  | .h240 => 2

/-- The mode vector of the registers as they stand now (30_encoding R82, R83). -/
def State.modeVector (s : State) : BitVec 6 :=
  Sys2Proof.modeVector (hselOf s.latched.h) s.m4 s.m3 s.m2 s.m1

end Sys2Proof.Machine
end

