-- ==== Sys2Proof/Machine/Palette.lean ====
section
/-! DEFINITION. Colours: packing, the CRAM palette (30_encoding R94), the fixed palettes (R95), the backdrops and nibble
colours (43_background_mode4 R191, 44_background_legacy R220, R221). -/

namespace Sys2Proof.Machine

/-- `ARGB(r, g, b)` with full opacity (00_scope R13). -/
def argb (r g b : Nat) : Colour := BitVec.ofNat 32 (0xFF000000 ||| (r <<< 16) ||| (g <<< 8) ||| b)

/-- A 6-bit SMS colour code expanded to a colour (30_encoding R94). -/
def smsColour (b : Nat) : Colour := argb (b % 4 * 85) (b / 4 % 4 * 85) (b / 16 % 4 * 85)

/-- A 12-bit GG colour word expanded to a colour (30_encoding R94). -/
def ggColour (w : Nat) : Colour := argb (w % 16 * 17) (w / 16 % 16 * 17) (w / 256 % 16 * 17)

/-- `CramColour(i)`, the entry index modulo 32 (30_encoding R94, 20_memory R62, R66). -/
def State.cramColour (s : State) (i : Nat) : Colour :=
  match s.params.cramFormat with
  | .sms => smsColour (s.cramByte (i % 32)).toNat
  | .gg => ggColour ((s.cramByte (2 * (i % 32))).toNat + 256 * (s.cramByte (2 * (i % 32) + 1)).toNat)

/-- The SMS codes of the MasterSystem fixed palette (30_encoding R95). -/
def masterSystemCodes : List Nat :=
  [0x00, 0x00, 0x08, 0x0C, 0x10, 0x30, 0x01, 0x3C, 0x02, 0x03, 0x05, 0x0F, 0x04, 0x33, 0x15, 0x3F]

/-- The TMS9918 fixed palette (30_encoding R95). -/
def tms9918Colours : List Colour :=
  [0xFF000000, 0xFF000000, 0xFF21C842, 0xFF5EDC78, 0xFF5455ED, 0xFF7D76FC, 0xFFD4524D, 0xFF42EBF5,
   0xFFFC5554, 0xFFFF7978, 0xFFD4C154, 0xFFE6CE80, 0xFF21B03B, 0xFFC95BBA, 0xFFCCCCCC, 0xFFFFFFFF]

/-- `FixedColour(n)` for n in 0..15 (30_encoding R95). Every caller passes a 4-bit number. -/
def State.fixedColour (s : State) (n : Nat) : Colour :=
  match s.inputs.cfg.fixedPalette with
  | .masterSystem => smsColour (masterSystemCodes[n % 16]?.getD 0)
  | .tms9918 => tms9918Colours[n % 16]?.getD 0xFF000000

/-- `Mode4Backdrop()` (43_background_mode4 R191). -/
def State.mode4Backdrop (s : State) : Colour := s.cramColour (16 + s.backdropIndex)

/-- `LegacyBackdrop()` (44_background_legacy R220). -/
def State.legacyBackdrop (s : State) : Colour := s.fixedColour s.backdropIndex

/-- `NibbleColour(n, bd)` (44_background_legacy R221). -/
def State.nibbleColour (s : State) (n : Nat) (bd : Colour) : Colour := if n = 0 then bd else s.fixedColour n

end Sys2Proof.Machine
end

