-- ==== Sys2Proof/Machine/HostOps.lean ====
section
/-! DEFINITION. The host commands other than LINE (40_host_ops), the counter reads (41_counter_tables) and the two illegal
OPs (60_exceptions R321). -/

namespace Sys2Proof.Machine

/-- `VCount()` (41_counter_tables R148). SD is in the table between commands (R175; log 16). -/
def State.vCount (s : State) : Byte := (vTable s.params s.latched.sys s.latched.h)[s.beam.sd]?.getD 0

/-- `HCount(c)` for the `cycle` input: the difference modulo 2^64, then modulo CYCLES_PER_LINE (41_counter_tables R149). -/
def State.hCount (s : State) : Byte :=
  (hTable s.params)[(s.inputs.cycle - s.lineStartCycles).toNat % s.params.cyclesPerLine]?.getD 0

/-- The pixel `FRAMERD` answers: 0 outside the frame (40_host_ops R122). -/
def State.framePixel (s : State) (x y : Nat) : Colour :=
  if x < s.frame.width ∧ y < s.frame.height then s.frame.image.pixel y x else 0

/-- NOP (40_host_ops R124). -/
def execNop (s : State) : Host.Outcome State Fault Refusal := .next (s.answer 0)

/-- REGWR r, v (R111). -/
def execRegwr (r : BitVec 4) (v : Byte) (s : State) : Host.Outcome State Fault Refusal :=
  .next ((s.setReg r v).answer 0)

/-- VRAMWR a, v (R112). -/
def execVramwr (a : BitVec 14) (v : Byte) (s : State) : Host.Outcome State Fault Refusal :=
  .next ((s.setVram a.toNat v).answer 0)

/-- VRAMRD a (R113). -/
def execVramrd (a : BitVec 14) (s : State) : Host.Outcome State Fault Refusal :=
  .next (s.answer ((s.vramByte a.toNat).setWidth 32))

/-- CRAMWR a, v (R114). -/
def execCramwr (a : BitVec 14) (v : Byte) (s : State) : Host.Outcome State Fault Refusal :=
  .next ((s.setCram a.toNat v).answer 0)

/-- CRAMRD a (R115). -/
def execCramrd (a : BitVec 14) (s : State) : Host.Outcome State Fault Refusal :=
  .next (s.answer ((s.cramByte a.toNat).setWidth 32))

/-- STATRD: the read clears nothing (R116). -/
def execStatrd (s : State) : Host.Outcome State Fault Refusal := .next (s.answer s.flags.statusWord)

/-- FLAGCLR m (R117). -/
def execFlagclr (m : BitVec 4) (s : State) : Host.Outcome State Fault Refusal :=
  .next ({ s with flags := s.flags.clear m }.answer 0)

/-- VCNTRD (R118). -/
def execVcntrd (s : State) : Host.Outcome State Fault Refusal := .next (s.answer (s.vCount.setWidth 32))

/-- HCNTRD, sampling the `cycle` input (R119). -/
def execHcntrd (s : State) : Host.Outcome State Fault Refusal := .next (s.answer (s.hCount.setWidth 32))

/-- IRQRD (R120). -/
def execIrqrd (s : State) : Host.Outcome State Fault Refusal := .next (s.answer (flagBit s.irq 0))

/-- FRAMERD x, y (R122). -/
def execFramerd (x y : Byte) (s : State) : Host.Outcome State Fault Refusal :=
  .next (s.answer (s.framePixel x.toNat y.toNat))

/-- FRAMEDIM: `FW << 16 | FH` (R123, 30_encoding R98). -/
def execFramedim (s : State) : Host.Outcome State Fault Refusal :=
  .next (s.answer (BitVec.ofNat 32 ((s.frame.width <<< 16) ||| s.frame.height)))

/-- OP 0xE: takes the fault IllegalCommand and changes nothing else (60_exceptions R321). -/
def execIllegalE (s : State) : Host.Outcome State Fault Refusal := .next ((s.raiseFault .illegalCommand).answer 0)

/-- OP 0xF: takes the fault IllegalCommand and changes nothing else (60_exceptions R321). -/
def execIllegalF (s : State) : Host.Outcome State Fault Refusal := .next ((s.raiseFault .illegalCommand).answer 0)

end Sys2Proof.Machine
end

