-- ==== Sys2Proof/Machine/Frame.lean ====
section
/-! DEFINITION. The pixel blends, the downscaler and EndFrame (46_frame_assembler). -/

namespace Sys2Proof.Machine

/-- Red, bits 23:16. -/
def redOf (c : Colour) : Nat := c.toNat / 65536 % 256

/-- Green, bits 15:8. -/
def greenOf (c : Colour) : Nat := c.toNat / 256 % 256

/-- Blue, bits 7:0. -/
def blueOf (c : Colour) : Nat := c.toNat % 256

/-- One channel of a blend: the floor of the mean (46_frame_assembler R290 to R293). -/
def meanOf (channel : Colour → Nat) (cs : List Colour) : Nat := (cs.map channel).sum / cs.length

/-- Every blend averages each channel over its arguments and forces the alpha to 0xFF. -/
def blend (cs : List Colour) : Colour := argb (meanOf redOf cs) (meanOf greenOf cs) (meanOf blueOf cs)

/-- `BlendHalf` (R290). -/
def blendHalf (a b : Colour) : Colour := blend [a, b]

/-- `BlendThird` (R291). -/
def blendThird (a b c : Colour) : Colour := blend [a, b, c]

/-- `BlendQuarter` (R292). -/
def blendQuarter (a b c d : Colour) : Colour := blend [a, b, c, d]

/-- `BlendEighth` (R293). -/
def blendEighth (c0 c1 c2 c3 c4 c5 c6 c7 : Colour) : Colour := blend [c0, c1, c2, c3, c4, c5, c6, c7]

/-- The value of a downscaler's pixel over rows 0..H−1 of the Pixel Buffer and the backdrop (R300). Pixels are taken from
those rows and the 256 columns only. -/
def evalScale (pixel : Nat → Nat → Colour) (height : Nat) (bd : Colour) : ScaleExpr → Colour
  | .pixel r c => pixel (r % height) (c % 256)
  | .backdrop => bd
  | .half a b => blendHalf (evalScale pixel height bd a) (evalScale pixel height bd b)
  | .third a b c =>
    blendThird (evalScale pixel height bd a) (evalScale pixel height bd b) (evalScale pixel height bd c)

/-- The offsets `o_j` of R301. -/
def scaleOffset (j : Nat) : Nat := [0, 1, 3, 5, 6][j]?.getD 0

/-- `HRow(s)[x]`: 8 source pixels to 5 (R301). -/
def scaleHRow (row x : Nat) : ScaleExpr :=
  let col := 8 * (x / 5) + scaleOffset (x % 5)
  .half (.pixel row col) (.pixel row (col + 1))

/-- Row `k` (0 or 1) of `VPair(t0)` at column `x`: 3 rows to 2 (R301). -/
def scaleVPair (t0 k x : Nat) : ScaleExpr :=
  if k = 0 then .third (scaleHRow t0 x) (scaleHRow t0 x) (scaleHRow (t0 + 1) x)
  else .third (scaleHRow (t0 + 1) x) (scaleHRow (t0 + 2) x) (scaleHRow (t0 + 2) x)

/-- The reference downscaler (R301), with the backdrop margins of R302 at 192 lines. -/
def referenceScale (h : Height) (row col : Nat) : ScaleExpr :=
  match h with
  | .h192 =>
    if row < 8 ∨ 136 ≤ row then .backdrop else scaleVPair (3 * ((row - 8) / 2)) ((row - 8) % 2) col
  | .h224 => scaleVPair (4 + 3 * (row / 2)) (row % 2) col
  | .h240 => scaleVPair (12 + 3 * (row / 2)) (row % 2) col

/-- The `width` × `height` image whose pixel at row r and column c is `f r c`. -/
def imageOf (height width : Nat) (f : Nat → Nat → Colour) : List (List Colour) :=
  (List.range height).map fun r => (List.range width).map fun c => f r c

/-- `NormalCopy()` (R297). -/
def State.normalCopy (s : State) : List (List Colour) := imageOf s.latched.h.toNat 256 s.pixel

/-- The blend that gives one output pixel of the downscaler the block was built with: the spec's reference, or another one
that keeps the contract of R300 (log 10). -/
def State.scaleExpr (s : State) (row col : Nat) : ScaleExpr :=
  match s.params.hwScale with
  | .reference => referenceScale s.latched.h row col
  | .other => Config.otherScale s.latched.h s.normalCopy s.cachedBackdrop row col

/-- `CropCopy()` (R298). -/
def State.cropCopy (s : State) : List (List Colour) :=
  imageOf 144 160 fun r c => s.pixel (r + s.params.cropY.get s.latched.h) (c + 48)

/-- `HW_SCALE(PB, H, CachedBackdrop)` (R300). -/
def State.scaledCopy (s : State) : List (List Colour) :=
  imageOf 144 160 fun r c =>
    evalScale s.pixel s.latched.h.toNat s.cachedBackdrop (s.scaleExpr r c)

/-- The image EndFrame assembles, by the latched resizing mode (R295). -/
def State.assembled (s : State) : List (List Colour) :=
  match s.latched.resize with
  | .normal => s.normalCopy
  | .cropped => s.cropCopy
  | .scaled => s.scaledCopy

/-- `EndFrame()`: FB, FW and FH are replaced together (R295, R296). -/
def State.endFrame (s : State) : State :=
  { s with frame := ⟨.assembled s.assembled, s.latched.outW, s.latched.outH⟩ }

end Sys2Proof.Machine
end

