-- ==== Sys2Proof/Machine/Background.lean ====
section
/-! DEFINITION. The background renderers, column by column: Mode 4 (43_background_mode4), Graphics I, Graphics II,
Multicolour, Text and the fallback (44_background_legacy). -/

namespace Sys2Proof.Machine

/-- Bit `i` of a VRAM byte, as 0 or 1. -/
def State.vramBit (s : State) (a i : Nat) : Nat := ((s.vramByte a).getLsbD i).toNat

/-- The colour index whose bit-plane p is bit `bit` of the byte at `a + p`, p = 0..3 (30_encoding R89). -/
def State.planarIndex (s : State) (a bit : Nat) : Nat :=
  s.vramBit a bit + 2 * s.vramBit (a + 1) bit + 4 * s.vramBit (a + 2) bit + 8 * s.vramBit (a + 3) bit

/-- Horizontal scroll of line `y` (43_background_mode4 R194). -/
def State.scrollX (s : State) (y : Nat) : Nat := if s.hsl && decide (y < 16) then 0 else s.regNat 8

/-- `fine` (R194). -/
def State.fineX (s : State) (y : Nat) : Nat := s.scrollX y &&& 7

/-- `coarse` (R194). -/
def State.coarseX (s : State) (y : Nat) : Nat := s.scrollX y >>> 3

/-- The tile slot k whose pixel lands at column `x`: the inverse of `x = (k*8 + fine + p) mod 256` (R196; log 13). -/
def slotOf (fine x : Nat) : Nat := (x + 256 - fine) % 256 / 8

/-- The pixel p within its slot that lands at column `x` (R196; log 13). -/
def slotPixel (fine x : Nat) : Nat := (x + 256 - fine) % 256 % 8

/-- Pixel rows of the name table: 224 at 192 lines, else 256 (R192). -/
def wrapRows : Height → Nat
  | .h192 => 224
  | .h224 => 256
  | .h240 => 256

/-- Vertical row of slot k on line `y` (R195). -/
def State.vrow (s : State) (y k : Nat) : Nat :=
  (y + if s.vsl && decide (24 ≤ k) then 0 else s.latched.yScroll.toNat) % wrapRows s.latched.h

/-- Name-table column of slot k on line `y` (R196). -/
def State.tileCol (s : State) (y k : Nat) : Nat := (k + 32 - s.coarseX y) % 32

/-- `MirrorActive()` (R193). -/
def State.mirrorActive (s : State) : Bool :=
  s.inputs.cfg.supportsMirroredNameTable && ((s.reg 2).getLsbD 0 == s.params.mirrorOnR2Bit0)

/-- Name-table entry address of slot k on line `y`, bit 10 cleared when mirroring is active (R193, R198). -/
def State.entryAddr (s : State) (y k : Nat) : Nat :=
  let ea := (s.nameBase4 + (s.vrow y k >>> 3) * 64 + s.tileCol y k * 2) % 0x4000
  if s.mirrorActive then ea &&& 0x3BFF else ea

/-- The name-table entry at `ea`, little-endian (20_memory R65). -/
def State.nameEntry (s : State) (ea : Nat) : BitVec 16 := s.vramByte (ea + 1) ++ s.vramByte ea

/-- PAT, bits 8:0 (30_encoding R88). -/
def entryPat (w : BitVec 16) : Nat := w.toNat % 512

/-- HF, bit 9. -/
def entryHf (w : BitVec 16) : Bool := w.getLsbD 9

/-- VF, bit 10. -/
def entryVf (w : BitVec 16) : Bool := w.getLsbD 10

/-- PAL, bit 11. -/
def entryPal (w : BitVec 16) : Bool := w.getLsbD 11

/-- PRI, bit 12. -/
def entryPri (w : BitVec 16) : Bool := w.getLsbD 12

/-- The colour index of pixel p of a tile on pattern row `row`, with flips (43_background_mode4 R199). -/
def State.tileIndex (s : State) (w : BitVec 16) (row p : Nat) : Nat :=
  let fr := if entryVf w then 7 - row else row
  let c := if entryHf w then 7 - p else p
  s.planarIndex (entryPat w * 32 + fr * 4) (7 - c)

/-- The entry shown at column `x` of line `y`. -/
def State.entryAt (s : State) (y x : Nat) : BitVec 16 := s.nameEntry (s.entryAddr y (slotOf (s.fineX y) x))

/-- The colour index shown at column `x` of line `y`. -/
def State.indexAt (s : State) (y x : Nat) : Nat :=
  s.tileIndex (s.entryAt y x) (s.vrow y (slotOf (s.fineX y) x) % 8) (slotPixel (s.fineX y) x)

/-- The Mode 4 background at column `x` of line `y`: the backdrop in a blanked left column, else the tile pixel
(R197, R200, R202). -/
def State.mode4Pixel (s : State) (y : Nat) (bd : Colour) (x : Nat) : Colour :=
  if s.lcb && decide (x < 8) then bd
  else s.cramColour (s.indexAt y x + 16 * (entryPal (s.entryAt y x)).toNat)

/-- The foreground flag at column `x` of line `y` (R197, R201). -/
def State.mode4Fg (s : State) (y x : Nat) : Bool :=
  !(s.lcb && decide (x < 8)) && entryPri (s.entryAt y x) && decide (s.indexAt y x ≠ 0)

/-- The 1-bit array whose bit `x` is `f x`. -/
def bitsOfColumns (f : Nat → Bool) : BitVec 256 := BitVec.ofFnLE fun x : Fin 256 => f x.val

/-- `Mode4Line` (R202): the line and its foreground flags. -/
def State.mode4Line (s : State) (y : Nat) (bd : Colour) : Row × BitVec 256 :=
  (Row.ofColumns (s.mode4Pixel y bd), bitsOfColumns (s.mode4Fg y))

/-- The nibble a pattern bit chooses from a colour byte: set, the high one; clear, the low one (30_encoding R93). -/
def chooseNibble (set : Bool) (cbyte : Nat) : Nat := if set then cbyte / 16 else cbyte % 16

/-- The pattern name in the 32-column legacy name table (44_background_legacy R222). -/
def State.nameAt (s : State) (y x : Nat) : Nat := s.vramNat (s.nameBase + (y >>> 3) * 32 + (x >>> 3))

/-- `GraphicsILine` at column `x` (R222). -/
def State.graphics1Pixel (s : State) (y : Nat) (bd : Colour) (x : Nat) : Colour :=
  let name := s.nameAt y x
  let pbyte := s.vramByte (s.patternBase + name * 8 + y % 8)
  let cbyte := s.vramNat (s.colourBase + (name >>> 3))
  s.nibbleColour (chooseNibble (pbyte.getLsbD (7 - x % 8)) cbyte) bd

/-- `PatAddrII` (R224). -/
def State.patAddrII (s : State) (idx y : Nat) : Nat :=
  (((s.regNat 4 &&& 0x04) <<< 11) + (idx &&& (((s.regNat 4 &&& 0x03) <<< 8) ||| 0xFF)) * 8 + y % 8) % 0x4000

/-- `ColAddrII` (R224). -/
def State.colAddrII (s : State) (idx y : Nat) : Nat :=
  (((s.regNat 3 &&& 0x80) <<< 6) + (idx &&& (((s.regNat 3 &&& 0x7F) <<< 3) ||| 0x07)) * 8 + y % 8) % 0x4000

/-- `GraphicsIILine` at column `x` (R223). -/
def State.graphics2Pixel (s : State) (y : Nat) (bd : Colour) (x : Nat) : Colour :=
  let idx := ((y >>> 6) <<< 8) ||| s.nameAt y x
  let pbyte := s.vramByte (s.patAddrII idx y)
  let cbyte := s.vramNat (s.colAddrII idx y)
  s.nibbleColour (chooseNibble (pbyte.getLsbD (7 - x % 8)) cbyte) bd

/-- `MulticolourLine` at column `x` (R225). -/
def State.multicolourPixel (s : State) (y : Nat) (bd : Colour) (x : Nat) : Colour :=
  let mbyte := s.vramNat (s.patternBase + s.nameAt y x * 8 + ((y >>> 3) &&& 3) * 2 + ((y >>> 2) &&& 1))
  s.nibbleColour (if x &&& 4 = 0 then mbyte / 16 else mbyte % 16) bd

/-- `TextLine` at column `x`: 40 columns of 6 pixels between two 8-pixel borders (R226, R227, R228). -/
def State.textPixel (s : State) (y : Nat) (bd : Colour) (x : Nat) : Colour :=
  if x < 8 ∨ 248 ≤ x then bd
  else
    let name := s.vramNat (s.nameBase + (y >>> 3) * 40 + (x - 8) / 6)
    let pbyte := s.vramByte (s.patternBase + name * 8 + y % 8)
    s.nibbleColour (chooseNibble (pbyte.getLsbD (7 - (x - 8) % 6)) (s.regNat 7)) bd

end Sys2Proof.Machine
end

