-- ==== Sys2Proof/Machine/Sprites.lean ====
section
/-! DEFINITION. The sprite evaluator and renderer: the modern format of Mode 4 and the legacy format (45_sprites). -/

namespace Sys2Proof.Machine

/-- What the sprite pass of one line works on: the line, the scratch arrays, whether a collision happened, and the index
of the entry that overflowed. -/
structure LineWork where
  row       : Row
  scratch   : Scratch
  collision : Bool
  overflow  : Option Nat
  deriving DecidableEq, Repr

/-- The 1-bit array with bit `i` set. -/
def setBit {n : Nat} (v : BitVec n) (i : Nat) : BitVec n := v ||| BitVec.twoPow n i

/-- `top = Y' + 1`, with Y biased by −256 from 224 on (45_sprites R251). -/
def spriteTop (y : Byte) : Int := (if 224 ≤ y.toNat then (y.toNat : Int) - 256 else y.toNat) + 1

/-- The sprite row shown on line `line` by a sprite of on-screen height `h` (R251, R253): none when it does not cover it. -/
def spriteRow (attrY : Byte) (line h : Nat) : Option Nat :=
  let r := (line : Int) - spriteTop attrY
  if 0 ≤ r ∧ r < h then some r.toNat else none

/-- The zoom shift: 1 when MAG is set (R253, R266). -/
def State.zoom (s : State) : Nat := s.mag.toNat

/-! ## Modern format -/

/-- `Y_i` (30_encoding R90). -/
def State.modernY (s : State) (i : Nat) : Byte := s.vramByte (s.sat4 + i)

/-- `X_i` (R90). -/
def State.modernX (s : State) (i : Nat) : Nat := s.vramNat (s.sat4 + 0x80 + 2 * i)

/-- The pattern index `n` of entry i: even when sprites are joined (R90, 45_sprites R256). -/
def State.modernPattern (s : State) (i : Nat) : Nat :=
  let n := s.vramNat (s.sat4 + 0x81 + 2 * i)
  if s.size then n &&& 0xFE else n

/-- Whether entry i ends the walk: 0xD0, at 192 lines only (R252). -/
def State.modernEnd (s : State) (i : Nat) : Bool :=
  decide (s.latched.h = .h192) && decide (s.modernY i = 0xD0)

/-- On-screen height of a modern sprite (R253). -/
def State.modernHeight (s : State) : Nat := (if s.size then 16 else 8) <<< s.zoom

/-- Left edge `x0` of entry i (R254). -/
def State.modernLeft (s : State) (i : Nat) : Int := (s.modernX i : Int) - if s.ec then 8 else 0

/-- Colour index of on-screen pixel q of entry i on sprite row r (R256). -/
def State.modernIndex (s : State) (i r q : Nat) : Nat :=
  s.planarIndex (s.spriteBase4 + s.modernPattern i * 32 + (r >>> s.zoom) * 4) (7 - (q >>> s.zoom))

/-- Whether `count` entries on the line overflow (R255). -/
def State.modernOver (s : State) (count : Nat) : Bool :=
  decide (s.inputs.cfg.spriteCap < count) || (s.mag && decide (s.inputs.cfg.zoomedSpriteCap < count))

/-- One modern sprite pixel of colour index `ci` at column `x`: collision (R258), then the draw conditions (R257). -/
def State.plotModern (s : State) (ci : Nat) (x : Int) (w : LineWork) : LineWork :=
  if ci = 0 ∨ x < 0 ∨ 255 < x then w
  else
    let c := x.toNat
    let w1 :=
      { w with
        collision := w.collision || w.scratch.collM.getLsbD c
        scratch := { w.scratch with collM := setBit w.scratch.collM c } }
    if (s.lcb && decide (c < 8)) || w.scratch.fg.getLsbD c || w.scratch.sprDrawn.getLsbD c then w1
    else
      { w1 with
        row := w.row.setIfInBounds c (s.cramColour (16 + ci))
        scratch := { w1.scratch with sprDrawn := setBit w.scratch.sprDrawn c } }

/-- The on-screen pixels of entry i, left to right (R259). -/
def State.drawModern (s : State) (i r : Nat) (w : LineWork) : LineWork :=
  (List.range (8 <<< s.zoom)).foldl (fun w q => s.plotModern (s.modernIndex i r q) (s.modernLeft i + q) w) w

/-- The walk of `ModernSprites(y)` over the entries listed, `count` of which were found on the line before (R252, R255, R259). -/
def State.modernWalk (s : State) (y : Nat) : (entries : List Nat) → (count : Nat) → LineWork → LineWork
  | [], _, w => w
  | i :: rest, count, w =>
    if s.modernEnd i then w
    else
      match spriteRow (s.modernY i) y s.modernHeight with
      | none => s.modernWalk y rest count w
      | some r =>
        if s.modernOver (count + 1) then { w with overflow := some i }
        else s.modernWalk y rest (count + 1) (s.drawModern i r w)

/-- `ModernSprites(y)` (R259). -/
def State.modernSprites (s : State) (y : Nat) (w : LineWork) : LineWork := s.modernWalk y (List.range 64) 0 w

/-! ## Legacy format -/

/-- Byte `k` of legacy entry i: Y, X, pattern, flags (30_encoding R91). -/
def State.legacyByte (s : State) (i k : Nat) : Byte := s.vramByte (s.sat + 4 * i + k)

/-- Source size of a legacy sprite (45_sprites R266). -/
def State.legacySize (s : State) : Nat := if s.size then 16 else 8

/-- Left edge of legacy entry i: its flags bit 7 is the early clock (R267). -/
def State.legacyLeft (s : State) (i : Nat) : Int :=
  ((s.legacyByte i 1).toNat : Int) - if (s.legacyByte i 3).getLsbD 7 then s.params.legacyEcShift.pixels else 0

/-- Colour of legacy entry i (R269). -/
def State.legacyColour (s : State) (i : Nat) : Nat := (s.legacyByte i 3).toNat % 16

/-- The pattern bit of on-screen pixel q of legacy entry i on sprite row r (R266, 30_encoding R92). -/
def State.legacyBit (s : State) (i r q : Nat) : Bool :=
  let cx := q >>> s.zoom
  let row := r >>> s.zoom
  let pat := (s.legacyByte i 2).toNat
  if s.size then (s.vramByte (s.spriteBase + (pat &&& 0xFC) * 8 + (cx >>> 3) * 16 + row)).getLsbD (7 - (cx &&& 7))
  else (s.vramByte (s.spriteBase + pat * 8 + row)).getLsbD (7 - cx)

/-- One set legacy pixel at `x`: collision in the wide buffer (R270), then the draw conditions (R269). -/
def State.plotLegacy (s : State) (colour : Nat) (x : Int) (w : LineWork) : LineWork :=
  let c := (x + 32).toNat
  let w1 :=
    { w with
      collision := w.collision || w.scratch.collL.getLsbD c
      scratch := { w.scratch with collL := setBit w.scratch.collL c } }
  if x < 0 ∨ 255 < x ∨ colour = 0 ∨ w.scratch.sprDrawn.getLsbD x.toNat = true then w1
  else
    { w1 with
      row := w.row.setIfInBounds x.toNat (s.fixedColour colour)
      scratch := { w1.scratch with sprDrawn := setBit w.scratch.sprDrawn x.toNat } }

/-- The on-screen pixels of legacy entry i, left to right (R272). -/
def State.drawLegacy (s : State) (i r : Nat) (w : LineWork) : LineWork :=
  (List.range (s.legacySize <<< s.zoom)).foldl
    (fun w q => if s.legacyBit i r q then s.plotLegacy (s.legacyColour i) (s.legacyLeft i + q) w else w) w

/-- The walk of `LegacySprites(y)` over the entries listed (R265, R268, R272). -/
def State.legacyWalk (s : State) (y : Nat) : (entries : List Nat) → (count : Nat) → LineWork → LineWork
  | [], _, w => w
  | i :: rest, count, w =>
    if s.legacyByte i 0 = 0xD0 then w
    else
      match spriteRow (s.legacyByte i 0) y (s.legacySize <<< s.zoom) with
      | none => s.legacyWalk y rest count w
      | some r =>
        if s.inputs.cfg.legacySpriteCap < count + 1 then { w with overflow := some i }
        else s.legacyWalk y rest (count + 1) (s.drawLegacy i r w)

/-- `LegacySprites(y)` (R272). -/
def State.legacySprites (s : State) (y : Nat) (w : LineWork) : LineWork := s.legacyWalk y (List.range 32) 0 w

end Sys2Proof.Machine
end

