-- ==== Sys2Proof/Machine/Render.lean ====
section
/-! DEFINITION. RenderLine (42_beam R167) for a chosen renderer, and the meanings of the nine renderer selections of the
mode vector (30_encoding R82). -/

namespace Sys2Proof.Machine

/-- What distinguishes the renderers: the backdrop, the background line with its foreground flags, and the sprite pass
(30_encoding R82). Made by the five definitions below; never part of State. -/
structure Renderer where
  backdrop   : State → Colour
  background : State → (y : Nat) → (bd : Colour) → Row × BitVec 256
  sprites    : State → (y : Nat) → LineWork → LineWork

/-- A legacy background: no foreground flags (44_background_legacy R230). -/
def legacyBackground (pixel : State → Nat → Colour → Nat → Colour) : State → Nat → Colour → Row × BitVec 256 :=
  fun s y bd => (Row.ofColumns (pixel s y bd), 0)

/-- No sprites and no sprite flags (45_sprites R250). -/
def noSprites : State → Nat → LineWork → LineWork := fun _ _ w => w

/-- The Mode 4 renderer (43_background_mode4 R202, 45_sprites R259). -/
def rendererMode4 : Renderer := ⟨State.mode4Backdrop, State.mode4Line, State.modernSprites⟩

/-- The Graphics I renderer (44_background_legacy R222, 45_sprites R272). -/
def rendererGraphics1 : Renderer :=
  ⟨State.legacyBackdrop, legacyBackground State.graphics1Pixel, State.legacySprites⟩

/-- The Graphics II renderer (R223, R272). -/
def rendererGraphics2 : Renderer :=
  ⟨State.legacyBackdrop, legacyBackground State.graphics2Pixel, State.legacySprites⟩

/-- The Multicolour renderer (R225, R272). -/
def rendererMulticolour : Renderer :=
  ⟨State.legacyBackdrop, legacyBackground State.multicolourPixel, State.legacySprites⟩

/-- The Text renderer, without sprites (R226). -/
def rendererText : Renderer := ⟨State.legacyBackdrop, legacyBackground State.textPixel, noSprites⟩

/-- The fallback: a flat fill with the backdrop, without sprites (R229). -/
def rendererFallback : Renderer := ⟨State.legacyBackdrop, fun _ _ bd => (Row.fill bd, 0), noSprites⟩

/-- Background, layer switch and sprites of a displayed line (R167, R237). The sprite pass sees the scratch arrays clear
but for the foreground flags. -/
def State.lineWork (s : State) (rr : Renderer) (y : Nat) (bd : Colour) : LineWork :=
  let bg := rr.background s y bd
  rr.sprites s y
    { row := if s.inputs.cfg.backgroundLayerEnabled then bg.1 else Row.fill bd
      scratch := { Scratch.clear with fg := bg.2 }
      collision := false
      overflow := none }

/-- `RenderLine(y)` with a given renderer (42_beam R167): a whole line of backdrop when BLK = 0 (44_background_legacy R236),
else background and sprites, with the sprite flags they set. -/
def State.renderLineWith (s : State) (rr : Renderer) (y : Nat) : State :=
  let bd := rr.backdrop s
  if s.blk then
    let w := s.lineWork rr y bd
    { s with
      pb := s.pb.setIfInBounds y w.row
      cachedBackdrop := bd
      scratch := w.scratch
      flags := s.flags.afterSprites w.collision w.overflow }
  else
    { s with pb := s.pb.setIfInBounds y (Row.fill bd), cachedBackdrop := bd, scratch := Scratch.clear }

/-- MODE4: RenderLine(SD) with the Mode 4 renderer (43_background_mode4 R202). The height is the latched H, which the
vector's Hsel repeats (log 12). -/
def execMode4 (_hsel : BitVec 2) (_m3 _m2 _m1 : Bool) (s : State) : Host.Outcome State Fault Refusal :=
  .next (s.renderLineWith rendererMode4 s.beam.sd)

/-- GRAPHICS1: RenderLine(SD) with the Graphics I renderer (44_background_legacy R222). -/
def execGraphics1 (_hsel : BitVec 2) (s : State) : Host.Outcome State Fault Refusal :=
  .next (s.renderLineWith rendererGraphics1 s.beam.sd)

/-- GRAPHICS2: RenderLine(SD) with the Graphics II renderer (R223). -/
def execGraphics2 (_hsel : BitVec 2) (s : State) : Host.Outcome State Fault Refusal :=
  .next (s.renderLineWith rendererGraphics2 s.beam.sd)

/-- MULTICOLOUR: RenderLine(SD) with the Multicolour renderer (R225). -/
def execMulticolour (_hsel : BitVec 2) (s : State) : Host.Outcome State Fault Refusal :=
  .next (s.renderLineWith rendererMulticolour s.beam.sd)

/-- TEXT: RenderLine(SD) with the Text renderer (R226). -/
def execText (_hsel : BitVec 2) (s : State) : Host.Outcome State Fault Refusal :=
  .next (s.renderLineWith rendererText s.beam.sd)

/-- FALLBACK_3: RenderLine(SD) with the flat fallback (R229). -/
def execFallback3 (_hsel : BitVec 2) (s : State) : Host.Outcome State Fault Refusal :=
  .next (s.renderLineWith rendererFallback s.beam.sd)

/-- FALLBACK_5: RenderLine(SD) with the flat fallback (R229). -/
def execFallback5 (_hsel : BitVec 2) (s : State) : Host.Outcome State Fault Refusal :=
  .next (s.renderLineWith rendererFallback s.beam.sd)

/-- FALLBACK_6: RenderLine(SD) with the flat fallback (R229). -/
def execFallback6 (_hsel : BitVec 2) (s : State) : Host.Outcome State Fault Refusal :=
  .next (s.renderLineWith rendererFallback s.beam.sd)

/-- FALLBACK_7: RenderLine(SD) with the flat fallback (R229). -/
def execFallback7 (_hsel : BitVec 2) (s : State) : Host.Outcome State Fault Refusal :=
  .next (s.renderLineWith rendererFallback s.beam.sd)

/-- The renderer that a decoded mode vector selects (30_encoding R82). A command selects none. -/
def rendererOf : Instr → Option Renderer
  | .mode4 _ _ _ _ => some rendererMode4
  | .graphics1 _ => some rendererGraphics1
  | .graphics2 _ => some rendererGraphics2
  | .multicolour _ => some rendererMulticolour
  | .text _ => some rendererText
  | .fallback3 _ => some rendererFallback
  | .fallback5 _ => some rendererFallback
  | .fallback6 _ => some rendererFallback
  | .fallback7 _ => some rendererFallback
  | .nop => none
  | .regwr _ _ => none
  | .vramwr _ _ => none
  | .vramrd _ => none
  | .cramwr _ _ => none
  | .cramrd _ => none
  | .statrd => none
  | .flagclr _ => none
  | .vcntrd => none
  | .hcntrd => none
  | .irqrd => none
  | .line => none
  | .framerd _ _ => none
  | .framedim => none
  | .illegalE => none
  | .illegalF => none

/-- `RenderLine(SD)`: the mode is decoded afresh from the registers as they stand (30_encoding R83, 42_beam R167). -/
def State.renderLine (s : State) : State :=
  match rendererOf (selectRenderer s.modeVector) with
  | none => s
  | some rr => s.renderLineWith rr s.beam.sd

end Sys2Proof.Machine
end

