-- ==== Sys2Proof/Machine/Line.lean ====
section
/-! DEFINITION. The LINE command: the line step, its frame and line interrupts, and the beam-region machine (42_beam). -/

namespace Sys2Proof.Machine

/-- Sample the `cycle` input as LineStartCycles (42_beam R165, R166). -/
def State.sampleCycle (s : State) : State := { s with lineStartCycles := s.inputs.cycle }

/-- Render line SD while the beam is in ActiveDisplay (R165). -/
def State.renderPhase (s : State) : State := if s.beam.region = .activeDisplay then s.renderLine else s

/-- `SD <- SD + 1` (R166). -/
def State.countLine (s : State) : State := { s with beam := { s.beam with sd := s.beam.sd + 1 } }

/-- The frame interrupt: FramePending and EndFrame, on the incremented SD (R168). -/
def State.framePhase (s : State) : State :=
  if s.beam.sd = frameIntLine s.latched.h then
    { s with flags := { s.flags with framePending := true } }.endFrame
  else s

/-- Whether the countdown fires, before and after the decrement (R170, LINE_INT_TEST). -/
def lineFires (t : LineIntTest) (old : Int) : Bool :=
  match t with
  | .afterDecrement => decide (old - 1 ≤ 0)
  | .beforeDecrement => decide (old ≤ 0)

/-- `LineInterrupt()` (R169, R170, R171). -/
def State.lineInterrupt (s : State) : State :=
  if s.inputs.cfg.supportsLineInterrupts then
    if s.beam.sd ≤ s.latched.h.toNat then
      if lineFires s.params.lineIntTest s.lineCounter then
        { s with lineCounter := s.regNat 10, flags := { s.flags with linePending := true } }
      else { s with lineCounter := s.lineCounter - 1 }
    else { s with lineCounter := s.regNat 10 }
  else s

/-- Load RegionRemaining with the length of the current region (R173). -/
def State.loadRegion (s : State) : State :=
  { s with beam := { s.beam with remaining := s.regionLen s.beam.region } }

/-- Move to the next region, running BeginFrame on re-entry to ActiveDisplay before the reload (R173, R174). A fault of
BeginFrame stops the command there: the error is the state it leaves (60_exceptions R322). -/
def State.enterNext (s : State) : Except State State :=
  let s1 := { s with beam := { s.beam with region := s.beam.region.next } }
  if s1.beam.region = .activeDisplay then
    match s1.beginFrame with
    | .error r => .error (s1.raiseFault r)
    | .ok s2 => .ok s2.loadRegion
  else .ok s1.loadRegion

/-- The `while` of AdvanceRegion (R173), for at most `fuel` regions (log 15). -/
def State.passRegions : (fuel : Nat) → State → Except State State
  | 0, s => .ok s
  | fuel + 1, s =>
    if s.beam.remaining = 0 then
      match s.enterNext with
      | .error f => .error f
      | .ok t => State.passRegions fuel t
    else .ok s

/-- `AdvanceRegion()` (R173). Six regions are enough: ActiveDisplay is never empty (41_counter_tables R142; logs 14, 15). -/
def State.advanceRegion (s : State) : Except State State :=
  State.passRegions 6 { s with beam := { s.beam with remaining := s.beam.remaining - 1 } }

/-- The phases of the line step before the region advance, in order (R165). -/
def State.linePhases (s : State) : State :=
  s.sampleCycle.renderPhase.countLine.framePhase.lineInterrupt

/-- `LineStep(cycle)` (R165). A line step stopped by ConfigInvalid emits no pulse (60_exceptions R322). -/
def State.lineStep (s : State) : State :=
  match (s.answer 0).linePhases.advanceRegion with
  | .error f => f
  | .ok t => t.pulse

/-- LINE: "rasterise one scanline" (40_host_ops R121). -/
def execLine (s : State) : Host.Outcome State Fault Refusal := .next s.lineStep

end Sys2Proof.Machine
end

