-- ==== Sys2Proof/Machine/Dispatch.lean ====
section
/-! DEFINITION. One arm per instruction. -/

namespace Sys2Proof.Machine

def exec (i : Instr) (s : State) : Host.Outcome State Fault Refusal :=
  match i with
  | .nop => Sys2Proof.Machine.execNop s
  | .regwr r v => Sys2Proof.Machine.execRegwr r v s
  | .vramwr a v => Sys2Proof.Machine.execVramwr a v s
  | .vramrd a => Sys2Proof.Machine.execVramrd a s
  | .cramwr a v => Sys2Proof.Machine.execCramwr a v s
  | .cramrd a => Sys2Proof.Machine.execCramrd a s
  | .statrd => Sys2Proof.Machine.execStatrd s
  | .flagclr m => Sys2Proof.Machine.execFlagclr m s
  | .vcntrd => Sys2Proof.Machine.execVcntrd s
  | .hcntrd => Sys2Proof.Machine.execHcntrd s
  | .irqrd => Sys2Proof.Machine.execIrqrd s
  | .line => Sys2Proof.Machine.execLine s
  | .framerd x y => Sys2Proof.Machine.execFramerd x y s
  | .framedim => Sys2Proof.Machine.execFramedim s
  | .illegalE => Sys2Proof.Machine.execIllegalE s
  | .illegalF => Sys2Proof.Machine.execIllegalF s
  | .mode4 hsel m3 m2 m1 => Sys2Proof.Machine.execMode4 hsel m3 m2 m1 s
  | .graphics1 hsel => Sys2Proof.Machine.execGraphics1 hsel s
  | .graphics2 hsel => Sys2Proof.Machine.execGraphics2 hsel s
  | .multicolour hsel => Sys2Proof.Machine.execMulticolour hsel s
  | .text hsel => Sys2Proof.Machine.execText hsel s
  | .fallback3 hsel => Sys2Proof.Machine.execFallback3 hsel s
  | .fallback5 hsel => Sys2Proof.Machine.execFallback5 hsel s
  | .fallback6 hsel => Sys2Proof.Machine.execFallback6 hsel s
  | .fallback7 hsel => Sys2Proof.Machine.execFallback7 hsel s

end Sys2Proof.Machine
end

