-- ==== Sys2Proof/Machine/Fetch.lean ====
section
/-! DEFINITION. How a given instruction is made the next one: presenting a command, or standing a mode vector in the
registers and presenting the LINE that runs its renderer (log 3). -/

namespace Sys2Proof.Machine

/-- The command word of LINE (30_encoding R81). -/
def lineWord : Word := 0xB0000000

/-- The next input is this command, presented at the current `cycle`, to a block that is not Faulted. -/
def State.withCommand (s : State) (w : Word) : State :=
  { s with
    inputs := { s.inputs with pending := .command w s.inputs.cycle :: s.inputs.pending }
    fault := none }

/-- A byte with bit `n` made `b`. -/
def putBit (v : Byte) (n : Nat) (b : Bool) : Byte :=
  if b then v ||| BitVec.twoPow 8 n else v &&& ~~~ BitVec.twoPow 8 n

/-- The height that an Hsel stands for; 3 never occurs (30_encoding R82). -/
def heightOf (hsel : BitVec 2) : Height :=
  if hsel = 0 then .h192 else if hsel = 1 then .h224 else .h240

/-- The mode bits M4, M2 (R[0]) and M3, M1 (R[1]) of a mode vector, with the display on, so that the renderer runs
(10_state R34, 42_beam R167). -/
def State.withMode (s : State) (v : BitVec 6) : State :=
  let r0 := putBit (putBit (s.reg 0) 2 (v.getLsbD 3)) 1 (v.getLsbD 1)
  let r1 := putBit (putBit (putBit (s.reg 1) 6 true) 4 (v.getLsbD 0)) 3 (v.getLsbD 2)
  { (s.setReg 0 r0).setReg 1 r1 with
    latched := { s.latched with h := heightOf (hselField v) }
    beam := { s.beam with region := .activeDisplay } }

/-- The state in which an encoded instruction is the very next to run. -/
def State.withEncoded (s : State) : Encoded → State
  | .command w => s.withCommand w
  | .mode v => (s.withMode v).withCommand lineWord

end Sys2Proof.Machine
end

