-- ==== Sys2Proof/Machine/Step.lean ====
section
/-! DEFINITION. One step: the next input of the host (40_host_ops R110). -/

namespace Sys2Proof.Machine

/-- One step. A command runs to completion, or is refused while Faulted (40_host_ops R110); a configuration change reaches
the inputs; reset resets; with nothing pending the block waits. -/
def step (s : State) : Host.Outcome State Fault Refusal :=
  match s.inputs.pending with
  | [] => .next s.idle
  | .configure cfg :: rest => .next (s.configure cfg rest)
  | .reset c :: rest => .next (s.applyReset c rest)
  | .command w c :: rest =>
    if s.faulted then .next (s.present c rest).refuseCommand
    else exec (decodeCommand w) (s.present c rest)

/-- `s` with that instruction the next to run (log 3): a command word is presented; a mode vector is stood in the registers
and a LINE presented, whose render phase runs the renderer it selects. -/
def State.withFetchWord (s : State) (nbits w : Nat) : State :=
  match tableWord nbits w with
  | none => s
  | some e => s.withEncoded e

end Sys2Proof.Machine
end

