-- ==== Sys2Proof/Safety.lean ====
section
/-! DEFINITION. The invariants of the block between commands, what a host owes it, and the iterated line step: the terms
the statements use. -/

namespace Sys2Proof

/-- The lines of a frame before a region begins, in the fixed order of the regions (42_beam R173). -/
def RegionLens.startOf (l : RegionLens) : Region → Nat
  | .activeDisplay => 0
  | .bottomBorder => l.activeDisplay
  | .bottomBlanking => l.activeDisplay + l.bottomBorder
  | .verticalBlanking => l.activeDisplay + l.bottomBorder + l.bottomBlanking
  | .topBlanking => l.activeDisplay + l.bottomBorder + l.bottomBlanking + l.verticalBlanking
  | .topBorder => l.activeDisplay + l.bottomBorder + l.bottomBlanking + l.verticalBlanking + l.topBlanking

/-- Full opacity: alpha 0xFF (00_scope R13). -/
def opaqueColour (c : Colour) : Bool := c.extractLsb' 24 8 == 0xFF

namespace Machine

/-- REGION_LEN of the latched profile. -/
def State.lens (s : State) : RegionLens := s.params.regionLen.get s.latched.sys s.latched.h

/-- LinesPerFrame of the latched system (41_counter_tables R140). -/
def State.frameLines (s : State) : Nat := linesPerFrame s.latched.sys

/-- VRAM and CRAM are in canonical form and inside their address spaces (20_memory R60). -/
def State.memoryOk (s : State) : Bool :=
  s.vram.wf && s.vram.within 0x4000 && s.cram.wf && s.cram.within s.cramSize

/-- The beam stands inside its region: RegionRemaining is at least 1, and SD is the line it says (42_beam R175). -/
def State.beamOk (s : State) : Bool :=
  decide (1 ≤ s.beam.remaining) && decide (s.beam.remaining ≤ s.lens.get s.beam.region) &&
    decide (s.beam.sd + s.beam.remaining = s.lens.startOf s.beam.region + s.lens.get s.beam.region)

/-- The latched dimensions are those of the latched mode, and the latched scroll is below 224 at 192 lines
(10_state R44, R45). -/
def State.latchedOk (s : State) : Bool :=
  decide ((s.latched.outW, s.latched.outH) = outputDims s.latched.resize s.latched.h) &&
    (decide (s.latched.h ≠ .h192) || decide (s.latched.yScroll.toNat < 224))

/-- LineCounter lies in 0..255 between commands (42_beam R170). -/
def State.counterOk (s : State) : Bool := decide (0 ≤ s.lineCounter) && decide (s.lineCounter ≤ 255)

/-- FW × FH is one of the four frame sizes, and an assembled image has that size (10_state R38). -/
def State.frameOk (s : State) : Bool :=
  [(256, 192), (256, 224), (256, 240), (160, 144)].contains (s.frame.width, s.frame.height) &&
    match s.frame.image with
    | .unspecified _ => true
    | .assembled rows => decide (rows.length = s.frame.height) && rows.all fun r => decide (r.length = s.frame.width)

/-- The invariant of the block between commands. A block stopped by ConfigInvalid in a line step stands with
RegionRemaining = 0 (60_exceptions R322); every other state has its beam inside its region. -/
def State.Inv (s : State) : Bool :=
  s.params.wellFormed && s.memoryOk && s.latchedOk && s.counterOk && s.frameOk && opaqueColour s.cachedBackdrop &&
    (decide (s.fault = some .configInvalid) || s.beamOk)

/-- An input that raises no fault: a legal command word, a valid video system, or reset (60_exceptions R321, R322). -/
def HostInput.harmless : HostInput → Bool
  | .command w _ => decide (w.toNat < 0xE0000000)
  | .configure cfg => decide (cfg.videoSystem ≠ .invalid)
  | .reset _ => true

/-- A safe run: the block is not Faulted, its video system is valid, and every pending input is harmless
(70_reset R353 step 1). -/
def State.Safe (s : State) : Bool :=
  decide (s.fault = none) && decide (s.inputs.cfg.videoSystem ≠ .invalid) && s.inputs.pending.all HostInput.harmless

/-- The host's cadence duty: it reads within one scanline of the latest line step (70_reset R360). Not enforced by the
block. -/
def State.onCadence (s : State) : Bool :=
  decide ((s.inputs.cycle - s.lineStartCycles).toNat < s.params.cyclesPerLine)

/-- `n` LINE commands executed one after another, the inputs unchanged: `LINES n` (30_encoding R84). -/
def State.linesFrom : (n : Nat) → State → Option State
  | 0, s => some s
  | n + 1, s =>
    match exec .line s with
    | .next t => State.linesFrom n t
    | .fault _ => none
    | .refused _ => none

/-- The start of a frame: the state of the beam right after a BeginFrame (42_beam R161, R173). -/
def State.atFrameStart (s : State) : Bool :=
  decide (s.beam = ⟨.activeDisplay, s.latched.h.toNat, 0⟩) && decide (s.fault = none)

/-- Two entries of the list, at different places in it, both satisfy `p`. -/
def twoOf (l : List Nat) (p : Nat → Bool) : Bool := decide (2 ≤ (l.filter p).length)

/-- The instruction answers a next state, and that state is as `P` says. -/
def Completes (i : Instr) (s : State) (P : State → Prop) : Prop := ∃ t, exec i s = .next t ∧ P t

end Machine

end Sys2Proof
end

