-- ==== Sys2Proof/Certificates/Slice0/Obligations.lean ====
section
/-! DEFINITION. The statements about the block, for the provers. -/

open Sys2Proof Sys2Proof.Machine

/-! ## Encoding -/

/-- Words written out from the encodings of 30_encoding R80, R81, R82 and 95_test_vectors section 2.1. That a mode vector with Hsel = 3
is rejected is the model's choice (log 20): R82 says only that it never occurs. -/
def Obligations.WrittenOutWordsDecode : Prop :=
  decode (.command 0x00000000) = .ok .nop ∧
  decode (.command 0x10000160) = .ok (.regwr 1 0x60) ∧
  decode (.command 0x10001F05) = .ok (.regwr 15 0x05) ∧
  decode (.command 0x20380001) = .ok (.vramwr 0x3800 0x01) ∧
  decode (.command 0x3FC00000) = .ok (.vramrd 0) ∧
  decode (.command 0x4000213F) = .ok (.cramwr 0x21 0x3F) ∧
  decode (.command 0x7000000F) = .ok (.flagclr 0xF) ∧
  decode (.command 0xB0000000) = .ok .line ∧
  decode (.command 0xC000050A) = .ok (.framerd 10 5) ∧
  decode (.command 0xE0000000) = .ok .illegalE ∧
  decode (.command 0xF1234567) = .ok .illegalF ∧
  decode (.mode 0x1D) = .ok (.mode4 1 true false true) ∧
  decode (.mode 0x22) = .ok (.graphics2 2) ∧
  decode (.mode 0x04) = .ok (.multicolour 0) ∧
  decode (.mode 0x38) = .error .hselThree

/-- The bits of a command word that its OP uses, OP among them (30_encoding R81). -/
def Sys2Proof.usedBits (op : BitVec 4) : Word :=
  [0xF0000000, 0xF0000FFF, 0xF03FFFFF, 0xF03FFF00, 0xF03FFFFF, 0xF03FFF00, 0xF0000000, 0xF000000F,
   0xF0000000, 0xF0000000, 0xF0000000, 0xF0000000, 0xF000FFFF, 0xF0000000, 0xF0000000, 0xF0000000][op.toNat]?.getD 0

/-- 30_encoding R86: unused bits are ignored, and the encoder writes them as zero; every OP has its meaning. -/
def Obligations.UnusedBitsAreIgnored : Prop :=
  (∀ v w : Word, v &&& usedBits (opField w) = w &&& usedBits (opField w) → decodeCommand v = decodeCommand w) ∧
  (∀ w : Word, encode (decodeCommand w) = .command (w &&& usedBits (opField w)))

/-- Decoding what is encoded gives the instruction back, for every well-formed instruction with every operand; and a mode vector that
decodes is the encoding of a well-formed instruction. -/
def Obligations.DecodeAndEncodeAgree : Prop :=
  (∀ i : Instr, i.wellFormed = true → decode (encode i) = .ok i) ∧
  (∀ (v : BitVec 6) (i : Instr), decode (.mode v) = .ok i → encode i = .mode v ∧ i.wellFormed = true)

/-- 30_encoding R82, R34: which renderer the mode bits of R[0] and R[1] and the latched height select. -/
def Obligations.ModeBitsSelectRenderer : Prop :=
  ∀ s : State,
    let m4 := (s.reg 0).getLsbD 2
    let m3 := (s.reg 1).getLsbD 3
    let m2 := (s.reg 0).getLsbD 1
    let m1 := (s.reg 1).getLsbD 4
    let hsel : BitVec 2 :=
      if s.latched.h.toNat = 192 then 0 else if s.latched.h.toNat = 224 then 1 else 2
    decode (.mode s.modeVector) = .ok
      (if m4 then .mode4 hsel m3 m2 m1
       else if m3 then (if m2 then (if m1 then .fallback7 hsel else .fallback6 hsel)
                        else if m1 then .fallback5 hsel else .multicolour hsel)
       else if m2 then (if m1 then .fallback3 hsel else .graphics2 hsel)
       else if m1 then .text hsel else .graphics1 hsel)

/-- 30_encoding R84: the expansions of the pseudo-instructions. -/
def Obligations.PseudoInstructionsExpand : Prop :=
  (∀ (a n : Nat) (v : Byte), (Pseudo.vfill a n v).expand.length = n ∧
    ∀ k, k < n → (Pseudo.vfill a n v).expand[k]? = some (.vramwr (BitVec.ofNat 14 ((a + k) % 0x4000)) v)) ∧
  (∀ (a : Nat) (bytes : List Byte), (Pseudo.vwrite a bytes).expand.length = bytes.length ∧
    ∀ (k : Nat) (b : Byte), bytes[k]? = some b →
      (Pseudo.vwrite a bytes).expand[k]? = some (.vramwr (BitVec.ofNat 14 ((a + k) % 0x4000)) b)) ∧
  (∀ n k : Nat, (Pseudo.lines n).expand[k]? = if k < n then some .line else none) ∧
  Pseudo.ack.expand = [.statrd, .flagclr 0x0F]

/-! ## The step -/

/-- 40_host_ops R110: a presented command is the instruction its word decodes to, run to completion; while Faulted it is
refused, with RD = 0 and no state change; only reset leaves the fault state. -/
def Obligations.StepRunsThePresentedCommand : Prop :=
  (∀ s t : State, s.fault ≠ none → step s = .next t → t.fault ≠ s.fault → ∃ c rest, s.inputs.pending = .reset c :: rest) ∧
  ∀ (s : State) (w : Word) (c : Cycle) (rest : List HostInput) (i : Instr),
    s.inputs.pending = .command w c :: rest → decode (.command w) = .ok i →
    (s.fault = none → step s = exec i { s with inputs := ⟨s.inputs.cfg, c, rest⟩ }) ∧
    (s.fault ≠ none → step s = .next { s with inputs := ⟨s.inputs.cfg, c, rest⟩, outputs := ⟨0, false⟩ })

/-- No step stops: the spec's faults are states the block enters, and nothing else faults (60_exceptions R320, R323). No step
changes the construction parameters (00_scope section 4). A configuration change reaches the inputs only (00_scope R9), and with
nothing pending nothing changes but the outputs (60_exceptions R336): the model's choices of logs 1 and 2. -/
def Obligations.EveryStepCompletes : Prop :=
  ∀ s : State, ∃ t, step s = .next t ∧ t.params = s.params ∧
    (s.inputs.pending = [] → t = { s with outputs := ⟨0, false⟩ }) ∧
    (∀ (cfg : HostConfig) (rest : List HostInput), s.inputs.pending = .configure cfg :: rest →
      t = { s with inputs := ⟨cfg, s.inputs.cycle, rest⟩, outputs := ⟨0, false⟩ })

/-- How a given instruction is the very next to run (log 3, the model's choice): a command word is presented and run; a mode
vector stands in the registers, display on, with a LINE presented that renders with it. -/
def Obligations.PlacedInstructionRunsNext : Prop :=
  (∀ (s : State) (w : Word),
    step (s.withFetchWord 32 w.toNat) = exec (decodeCommand w) { s with fault := none }) ∧
  (∀ (s : State) (v : BitVec 6), hselField v ≠ 3 →
    let u := s.withFetchWord 8 v.toNat
    u.modeVector = v ∧ u.blk = true ∧ u.beam.region = .activeDisplay ∧ u.fault = none ∧
    u.inputs.pending = .command 0xB0000000 s.inputs.cycle :: s.inputs.pending ∧
    decode (.command 0xB0000000) = .ok .line)

/-- 30_encoding R83, 42_beam R165, R167: a LINE in ActiveDisplay leaves the Pixel Buffer, the scratch arrays, the sprite flags and (unless
it begins a frame) CachedBackdrop as the renderer leaves them that the mode vector of the registers, as they stand, decodes to; in any
other region it leaves them alone. That exec of a renderer row is the rendering of line SD by itself is the model's choice (log 11). -/
def Obligations.LineRendersWithTheDecodedMode : Prop :=
  ∀ (s : State) (i : Instr), decode (.mode s.modeVector) = .ok i →
    ∃ t u, exec .line s = .next t ∧ exec i s = .next u ∧
      let rendered := if s.beam.region = .activeDisplay then u else s
      t.pb = rendered.pb ∧ t.scratch = rendered.scratch ∧
      t.flags.spriteOverflow = rendered.flags.spriteOverflow ∧
      t.flags.spriteCollision = rendered.flags.spriteCollision ∧
      t.flags.overflowIndex = rendered.flags.overflowIndex ∧
      (t.beam.sd ≠ 0 → t.cachedBackdrop = rendered.cachedBackdrop)

/-! ## Host commands -/

/-- 40_host_ops R111: all 8 bits are stored in R[r], whichever register it is, and nothing else changes. -/
def Obligations.RegwrStoresTheByte : Prop :=
  ∀ (s : State) (r : BitVec 4) (v : Byte), Completes (.regwr r v) s fun t =>
    t = { s with regs := t.regs, outputs := ⟨0, false⟩ } ∧
    ∀ j : Fin 16, t.reg j = if j.val = r.toNat then v else s.reg j

/-- 40_host_ops R112: one byte of VRAM is stored, at the 14-bit address; every other byte reads as before. -/
def Obligations.VramwrStoresTheByte : Prop :=
  ∀ (s : State) (a : BitVec 14) (v : Byte), s.vram.wf = true → Completes (.vramwr a v) s fun t =>
    t = { s with vram := t.vram, outputs := ⟨0, false⟩ } ∧
    ∀ b : Nat, t.vramByte b = if b % 0x4000 = a.toNat then v else s.vramByte b

/-- 40_host_ops R114, 20_memory R62: one byte of CRAM is stored, at A modulo CRAM_SIZE; every other byte reads as before. -/
def Obligations.CramwrStoresTheByte : Prop :=
  ∀ (s : State) (a : BitVec 14) (v : Byte), s.cram.wf = true → Completes (.cramwr a v) s fun t =>
    t = { s with cram := t.cram, outputs := ⟨0, false⟩ } ∧
    ∀ b : Nat, t.cramByte b = if b % s.cramSize = a.toNat % s.cramSize then v else s.cramByte b

/-- 40_host_ops R113, R115: the byte read, zero-extended; reads change nothing. -/
def Obligations.MemoryReadsAnswerTheByte : Prop :=
  ∀ (s : State) (a : BitVec 14),
    (Completes (.vramrd a) s fun t =>
      t = { s with outputs := ⟨t.outputs.rd, false⟩ } ∧ t.outputs.rd.toNat = (s.vram.read a.toNat).toNat) ∧
    (Completes (.cramrd a) s fun t =>
      t = { s with outputs := ⟨t.outputs.rd, false⟩ } ∧
      t.outputs.rd.toNat = (s.cram.read (a.toNat % s.cramSize)).toNat)

/-- 30_encoding R96: every bit of the status word. -/
def Obligations.StatusWordBits : Prop :=
  ∀ s : State, Completes .statrd s fun t =>
    t = { s with outputs := ⟨t.outputs.rd, false⟩ } ∧
    ∀ n : Nat, t.outputs.rd.getLsbD n =
      if n = 7 then s.flags.framePending
      else if n = 6 then s.flags.spriteOverflow
      else if n = 5 then s.flags.spriteCollision
      else if n < 5 then s.flags.overflowIndex.getLsbD n
      else if n = 8 then s.flags.linePending
      else if n < 15 then s.flags.overflowIndex.getLsbD (n - 9)
      else false

/-- 30_encoding R97: the FLAGCLR mask clears the selected flags, D[7:4] are ignored, and OverflowIndex and everything else stay. -/
def Obligations.FlagclrClearsTheSelectedFlags : Prop :=
  (∀ w : Word, w.toNat / 2 ^ 28 = 7 → decodeCommand w = .flagclr (BitVec.ofNat 4 (w.toNat % 16))) ∧
  ∀ (s : State) (m : BitVec 4), Completes (.flagclr m) s fun t =>
    t = { s with flags := t.flags, outputs := ⟨0, false⟩ } ∧
    t.flags.framePending = (if m.getLsbD 0 then false else s.flags.framePending) ∧
    t.flags.linePending = (if m.getLsbD 1 then false else s.flags.linePending) ∧
    t.flags.spriteOverflow = (if m.getLsbD 2 then false else s.flags.spriteOverflow) ∧
    t.flags.spriteCollision = (if m.getLsbD 3 then false else s.flags.spriteCollision) ∧
    t.flags.overflowIndex = s.flags.overflowIndex

/-- 40_host_ops R118, 41_counter_tables R143, R148: the vertical counter of line SD, with its one forward jump. -/
def Obligations.VerticalCounterOfTheLine : Prop :=
  ∀ s : State, jumpOk s.params s.latched.sys s.latched.h = true → s.beam.sd < s.frameLines →
    Completes .vcntrd s fun t =>
      t = { s with outputs := ⟨t.outputs.rd, false⟩ } ∧
      let threshold := s.params.vcThreshold.get s.latched.sys s.latched.h
      let jump := s.params.vcJump.get s.latched.sys s.latched.h
      t.outputs.rd.toNat =
        (if s.beam.sd ≤ threshold then s.beam.sd else jump + (s.beam.sd - threshold - 1)) % 256

/-- 40_host_ops R119, 41_counter_tables R146, R149: the horizontal counter of the cycles since the latest line step, taken
modulo 2^64 and then modulo CYCLES_PER_LINE. Where an entry of the table would leave a byte, it is taken modulo 256: the model's choice
(log 28). -/
def Obligations.HorizontalCounterOfTheCycle : Prop :=
  ∀ s : State, 0 < s.params.cyclesPerLine → Completes .hcntrd s fun t =>
    t = { s with outputs := ⟨t.outputs.rd, false⟩ } ∧
    let elapsed := ((s.inputs.cycle.toNat + 2 ^ 64 - s.lineStartCycles.toNat) % 2 ^ 64) % s.params.cyclesPerLine
    let k := 3 * elapsed / 4
    t.outputs.rd.toNat =
      (if k ≤ s.params.hcCeiling then k else s.params.hcRestart + (k - s.params.hcCeiling - 1)) % 256

/-- 60_exceptions R325: the interrupt line is a pure function of the flags and the two enables. -/
def Obligations.InterruptLine : Prop :=
  ∀ s : State, Completes .irqrd s fun t =>
    t = { s with outputs := ⟨t.outputs.rd, false⟩ } ∧
    t.outputs.rd =
      if (s.flags.framePending = true ∧ (s.reg 1).getLsbD 5 = true) ∨
         (s.flags.linePending = true ∧ (s.reg 0).getLsbD 4 = true) then 1 else 0

/-- 40_host_ops R122: FRAMERD answers a pixel of the Completed Frame Buffer, 0 outside it; an unspecified frame answers a free value.
R123, 30_encoding R98: FRAMEDIM answers FW in the high half and FH in the low half. -/
def Obligations.FrameReadsAnswerPixelAndSize : Prop :=
  (∀ (s : State) (x y : Byte), Completes (.framerd x y) s fun t =>
    t = { s with outputs := ⟨t.outputs.rd, false⟩ } ∧
    (s.frame.width ≤ x.toNat ∨ s.frame.height ≤ y.toNat → t.outputs.rd = 0) ∧
    (x.toNat < s.frame.width → y.toNat < s.frame.height →
      (∀ rows row c, s.frame.image = .assembled rows → rows[y.toNat]? = some row → row[x.toNat]? = some c →
        t.outputs.rd = c) ∧
      (∀ n, s.frame.image = .unspecified n → t.outputs.rd = Config.freeFramePixel n y.toNat x.toNat))) ∧
  (∀ s : State, s.frame.width < 0x10000 → s.frame.height < 0x10000 → Completes .framedim s fun t =>
    t = { s with outputs := ⟨t.outputs.rd, false⟩ } ∧
    t.outputs.rd.toNat / 0x10000 = s.frame.width ∧ t.outputs.rd.toNat % 0x10000 = s.frame.height)

/-- 20_memory R69: no read has a side effect, and an identical read with nothing in between gives the same result. -/
def Obligations.ReadsHaveNoSideEffect : Prop :=
  ∀ (s : State) (i : Instr),
    ((∃ a, i = .vramrd a) ∨ (∃ a, i = .cramrd a) ∨ i = .statrd ∨ i = .vcntrd ∨ i = .hcntrd ∨ i = .irqrd ∨
      (∃ x y, i = .framerd x y) ∨ i = .framedim) →
    Completes i s fun t => t = { s with outputs := t.outputs } ∧ exec i t = .next t

/-- 40_host_ops R125: a command with no result, and a refused command, answers RD = 0, and no command's effect depends on the outputs
of the command before. R124: NOP changes no state element. -/
def Obligations.CommandsWithoutResultAnswerZero : Prop :=
  (∀ (s : State) (i : Instr),
    (i = .nop ∨ (∃ r v, i = .regwr r v) ∨ (∃ a v, i = .vramwr a v) ∨ (∃ a v, i = .cramwr a v) ∨
      (∃ m, i = .flagclr m) ∨ i = .line ∨ i = .illegalE ∨ i = .illegalF) →
    Completes i s fun t => t.outputs.rd = 0) ∧
  (∀ (s : State) (w : Word) (c : Cycle) (rest : List HostInput), s.inputs.pending = .command w c :: rest → s.fault ≠ none →
    ∃ t, step s = .next t ∧ t.outputs.rd = 0) ∧
  (∀ (s : State) (w : Word) (o : Outputs), exec (decodeCommand w) { s with outputs := o } = exec (decodeCommand w) s) ∧
  (∀ s : State, Completes .nop s fun t => t = { s with outputs := ⟨0, false⟩ })

/-- 60_exceptions R321: a word with OP 0xE or 0xF takes the fault IllegalCommand and changes nothing else. -/
def Obligations.IllegalCommandFaults : Prop :=
  ∀ (s : State) (w : Word), 0xE0000000 ≤ w.toNat →
    (decodeCommand w = .illegalE ∨ decodeCommand w = .illegalF) ∧
    Completes (decodeCommand w) s fun t =>
      t = { s with fault := some .illegalCommand, outputs := ⟨0, false⟩ }

/-! ## The line step -/

/-- 42_beam R165: what a line step leaves alone. It samples the `cycle` input and renders line SD only. -/
def Obligations.LineStepFrame : Prop :=
  ∀ s : State, Completes .line s fun t =>
    t = { s with
      pb := t.pb, frame := t.frame, beam := t.beam, lineCounter := t.lineCounter,
      lineStartCycles := s.inputs.cycle, latched := t.latched, cachedBackdrop := t.cachedBackdrop,
      flags := t.flags, fault := t.fault, scratch := t.scratch, outputs := t.outputs } ∧
    (∀ a, t.vramByte a = s.vramByte a ∧ t.cramByte a = s.cramByte a) ∧
    (∀ y x, s.beam.region ≠ .activeDisplay ∨ y ≠ s.beam.sd → t.pixel y x = s.pixel y x)

/-- 42_beam R166, R173, R174, R175: a line step inside the frame counts one line, stays in or passes to the region of the
line now begun, and keeps what BeginFrame latched; it ends with the pulse of R172. -/
def Obligations.LineStepCountsOneLine : Prop :=
  ∀ s : State, s.params.wellFormed = true → s.beamOk = true → s.beam.sd + 1 < s.frameLines →
    Completes .line s fun t =>
      t.beam.sd = s.beam.sd + 1 ∧ t.beamOk = true ∧
      (1 < s.beam.remaining → t.beam.region = s.beam.region ∧ t.beam.remaining = s.beam.remaining - 1) ∧
      (s.beam.remaining = 1 → t.beam.region ≠ s.beam.region ∧ t.beam.remaining = t.lens.get t.beam.region) ∧
      (t.beam.region = .activeDisplay ↔ t.beam.sd < s.latched.h.toNat) ∧
      t.latched = s.latched ∧ t.fault = s.fault ∧ t.outputs = ⟨0, true⟩

/-- 42_beam R161, R162: the line step that completes the last line runs BeginFrame, and the new frame's values are those of
the registers and the configuration inputs as they stand. -/
def Obligations.LastLineStepBeginsAFrame : Prop :=
  ∀ s : State, s.params.wellFormed = true → s.beamOk = true → s.beam.sd + 1 = s.frameLines →
    s.inputs.cfg.videoSystem ≠ .invalid →
    Completes .line s fun t =>
      let h := s.inputs.cfg.verticalResolution
      t.beam = ⟨.activeDisplay, h.toNat, 0⟩ ∧
      (t.latched.sys = .pal ↔ s.inputs.cfg.videoSystem = .pal) ∧
      t.latched.h = h ∧
      t.latched.yScroll.toNat = (if h = .h192 then s.regNat 9 % 224 else s.regNat 9) ∧
      t.latched.resize = s.inputs.cfg.resizingMode ∧
      (t.latched.outW, t.latched.outH) =
        (if s.inputs.cfg.resizingMode = .normal then (256, h.toNat) else (160, 144)) ∧
      t.cachedBackdrop = 0xFF000000 ∧ t.fault = s.fault ∧ t.outputs = ⟨0, true⟩

/-- 60_exceptions R322: with an invalid video system the last line step faults in BeginFrame. What BeginFrame would latch keeps
its old value, Region has moved to ActiveDisplay, RegionRemaining is 0, SD is incremented, and there is no pulse. At reset the
block is left Faulted with the provisional values. -/
def Obligations.InvalidVideoSystemFaults : Prop :=
  (∀ s : State, s.params.wellFormed = true → s.beamOk = true → s.beam.sd + 1 = s.frameLines →
    s.inputs.cfg.videoSystem = .invalid →
    Completes .line s fun t =>
      t.fault = some .configInvalid ∧ t.beam = ⟨.activeDisplay, 0, s.frameLines⟩ ∧ t.latched = s.latched ∧
      t.outputs = ⟨0, false⟩ ∧
      t = { (s.answer 0).linePhases with beam := t.beam, fault := t.fault }) ∧
  (∀ (s : State) (c : Cycle) (rest : List HostInput),
    s.inputs.pending = .reset c :: rest → s.inputs.cfg.videoSystem = .invalid →
    ∃ t, step s = .next t ∧ t.fault = some .configInvalid ∧ t.beam = ⟨.activeDisplay, 192, 0⟩ ∧
      t.latched = ⟨.ntsc, .h192, 0, .normal, 256, 192⟩ ∧ t.frame.width = 256 ∧ t.frame.height = 192)

/-- 42_beam R163, R168: FramePending is set, whatever IE0 and BLK hold, by exactly the line step that makes SD the frame-interrupt
line, and that step replaces the Completed Frame Buffer with its dimensions. -/
def Obligations.FrameInterruptAtItsLine : Prop :=
  ∀ s : State,
    let line := match s.latched.h with | .h192 => 0xC1 | .h224 => 0xE1 | .h240 => 0xF1
    Completes .line s fun t =>
      (s.beam.sd + 1 = line → t.flags.framePending = true ∧ t.frame.width = s.latched.outW ∧
        t.frame.height = s.latched.outH ∧ ∃ rows, t.frame.image = .assembled rows) ∧
      (s.beam.sd + 1 ≠ line → t.flags.framePending = s.flags.framePending ∧ t.frame = s.frame)

/-- 42_beam R169, R170: the countdown inside the window, with either line-interrupt test, and its reload outside. -/
def Obligations.LineCountdown : Prop :=
  ∀ s : State, s.inputs.cfg.supportsLineInterrupts = true → Completes .line s fun t =>
    let fires := if s.params.lineIntTest = .afterDecrement then s.lineCounter - 1 ≤ 0 else s.lineCounter ≤ 0
    (s.beam.sd + 1 ≤ s.latched.h.toNat → fires →
      t.flags.linePending = true ∧ t.lineCounter = (s.regNat 10 : Int)) ∧
    (s.beam.sd + 1 ≤ s.latched.h.toNat → ¬ fires →
      t.flags.linePending = s.flags.linePending ∧ t.lineCounter = s.lineCounter - 1) ∧
    (s.latched.h.toNat < s.beam.sd + 1 →
      t.flags.linePending = s.flags.linePending ∧ t.lineCounter = (s.regNat 10 : Int))

/-- 42_beam R171: without line-interrupt support a line step neither reads nor writes LineCounter, and LinePending keeps its
value. -/
def Obligations.NoLineInterruptSupport : Prop :=
  ∀ (s : State) (n : Int), s.inputs.cfg.supportsLineInterrupts = false → Completes .line s fun t =>
    t.lineCounter = s.lineCounter ∧ t.flags.linePending = s.flags.linePending ∧
    exec .line { s with lineCounter := n } = .next { t with lineCounter := n }

/-- 60_exceptions R327: one line step never sets both interrupt flags. -/
def Obligations.NeverBothInterruptFlags : Prop :=
  ∀ s : State, s.flags.framePending = false → s.flags.linePending = false →
    Completes .line s fun t => ¬ (t.flags.framePending = true ∧ t.flags.linePending = true)

/-- 42_beam R172: every line step that no fault stops ends with the IrqEvaluate pulse, whatever flags changed, and the interrupt line
read after it is that of the flags and enables the step left. -/
def Obligations.EveryLineStepPulses : Prop :=
  ∀ s : State, s.fault = none → Completes .line s fun t =>
    t.outputs = ⟨0, decide (t.fault = none)⟩ ∧
    Completes .irqrd t fun u => u.outputs.rd =
      if (t.flags.framePending = true ∧ (s.reg 1).getLsbD 5 = true) ∨
         (t.flags.linePending = true ∧ (s.reg 0).getLsbD 4 = true) then 1 else 0

/-- 42_beam R175: from the start of a frame, with a valid video system, the n-th LINE leaves SD = n, LinesPerFrame of them lead to
the start of the next frame, and FramePending, clear at the start, is set from the frame-interrupt line's step on. -/
def Obligations.AFrameIsLinesPerFrameSteps : Prop :=
  ∀ s : State, s.params.wellFormed = true → s.atFrameStart = true → s.inputs.cfg.videoSystem ≠ .invalid →
    s.flags.framePending = false →
    (∀ n, n < s.frameLines → ∃ t, s.linesFrom n = some t ∧
      t.beam.sd = n ∧ t.beamOk = true ∧ t.fault = none ∧
      (t.beam.region = .activeDisplay ↔ n < s.latched.h.toNat) ∧
      (t.flags.framePending = true ↔ frameIntLine s.latched.h ≤ n)) ∧
    ∃ t, s.linesFrom s.frameLines = some t ∧ t.atFrameStart = true

/-! ## The sprite tables, written out from the registers and VRAM -/

namespace Sys2Proof.Machine

/-- 45_sprites R251 item 5: the top line of a sprite with attribute byte `y`. -/
def topLine (y : Nat) : Int := if 224 ≤ y then (y : Int) - 255 else (y : Int) + 1

/-- How many screen pixels one sprite pixel takes in each direction: 2 when MAG, R[1] bit 0, is set (R253, R266). -/
def State.magnification (s : State) : Nat := if (s.reg 1).getLsbD 0 then 2 else 1

/-- Modern sprite-attribute table: `(R[5] & 0x7E) << 7` (R252, 10_state R28). -/
def State.modernTable (s : State) : Nat := (s.regNat 5 &&& 0x7E) <<< 7

/-- Modern entry `i` covers line `y`: it has 8 lines, or 16 when SIZE, R[1] bit 1, is set, magnified (R251, R253). -/
def State.modernCovers (s : State) (i y : Nat) : Bool :=
  let top := topLine (s.vramNat (s.modernTable + i))
  let height := (if (s.reg 1).getLsbD 1 then 16 else 8) * s.magnification
  decide (top ≤ y) && decide ((y : Int) < top + height)

/-- The modern entries that cover line `y`, in table order; the table ends at the first Y of 0xD0, at 192 lines only (R252). -/
def State.modernFound (s : State) (y : Nat) : List Nat :=
  ((List.range 64).takeWhile fun i =>
    !(decide (s.latched.h = .h192) && decide (s.vramNat (s.modernTable + i) = 0xD0))).filter fun i => s.modernCovers i y

/-- The cap on the modern sprites of one line: a second one holds when they are zoomed (R255). -/
def State.modernCap (s : State) : Nat :=
  if (s.reg 1).getLsbD 0 then min s.inputs.cfg.spriteCap s.inputs.cfg.zoomedSpriteCap else s.inputs.cfg.spriteCap

/-- The modern entries that are processed on line `y`: those found, up to the cap (R255). -/
def State.modernShown (s : State) (y : Nat) : List Nat := (s.modernFound y).take s.modernCap

/-- The colour index that modern entry `i` has at column `x` of line `y`, 0 where it has no pixel: early clock R[0] bit 3 (R254),
pattern base `(R[6] & 0x04) << 11`, the even pattern of a pair when SIZE is set, four bit-planes (R256). -/
def State.modernAt (s : State) (i y : Nat) (x : Int) : Nat :=
  let m := s.magnification
  let left := (s.vramNat (s.modernTable + 0x80 + 2 * i) : Int) - if (s.reg 0).getLsbD 3 then 8 else 0
  let name := s.vramNat (s.modernTable + 0x81 + 2 * i)
  let pattern := if (s.reg 1).getLsbD 1 then name / 2 * 2 else name
  let row := (y - topLine (s.vramNat (s.modernTable + i))).toNat / m
  let col := (x - left).toNat / m
  let plane := fun p =>
    ((s.vramByte (((s.regNat 6 &&& 0x04) <<< 11) + pattern * 32 + row * 4 + p)).getLsbD (7 - col)).toNat
  if s.modernCovers i y = true ∧ left ≤ x ∧ x < left + (8 * m : Nat) then
    plane 0 + 2 * plane 1 + 4 * plane 2 + 8 * plane 3
  else 0

/-- Legacy sprite-attribute table: `(R[5] & 0x7F) << 7` (R265, 10_state R28). -/
def State.legacyTable (s : State) : Nat := (s.regNat 5 &&& 0x7F) <<< 7

/-- Source pixels of a legacy sprite in each direction: 16 when SIZE, R[1] bit 1, is set (R266). -/
def State.legacyExtent (s : State) : Nat := if (s.reg 1).getLsbD 1 then 16 else 8

/-- Legacy entry `i` covers line `y` (R251, R266). -/
def State.legacyCovers (s : State) (i y : Nat) : Bool :=
  let top := topLine (s.vramNat (s.legacyTable + 4 * i))
  decide (top ≤ y) && decide ((y : Int) < top + (s.legacyExtent * s.magnification : Nat))

/-- The legacy entries that cover line `y`, in table order; the table ends at the first Y of 0xD0, at every height (R265). -/
def State.legacyFound (s : State) (y : Nat) : List Nat :=
  ((List.range 32).takeWhile fun i => decide (s.vramNat (s.legacyTable + 4 * i) ≠ 0xD0)).filter fun i => s.legacyCovers i y

/-- The legacy entries that are processed on line `y` (R268). -/
def State.legacyShown (s : State) (y : Nat) : List Nat := (s.legacyFound y).take s.inputs.cfg.legacySpriteCap

/-- The colour of legacy entry `i`: `flags & 0x0F` (R269). -/
def State.legacySpriteColour (s : State) (i : Nat) : Nat := s.vramNat (s.legacyTable + 4 * i + 3) % 16

/-- Whether legacy entry `i` has a set pattern bit at column `x` of line `y`: early clock by flags bit 7 (R267), pattern base
`(R[6] & 0x07) << 11`, and for 16 × 16 sprites `pat & 0xFC` with the right half 16 bytes on (R266). -/
def State.legacyAt (s : State) (i y : Nat) (x : Int) : Bool :=
  let e := s.legacyTable + 4 * i
  let m := s.magnification
  let shift := match s.params.legacyEcShift with | .by8 => 8 | .by32 => 32
  let left := (s.vramNat (e + 1) : Int) - if (s.vramByte (e + 3)).getLsbD 7 then shift else 0
  let row := (y - topLine (s.vramNat e)).toNat / m
  let col := (x - left).toNat / m
  let pat := s.vramNat (e + 2)
  let base := (s.regNat 6 &&& 0x07) <<< 11
  s.legacyCovers i y && decide (left ≤ x) && decide (x < left + (s.legacyExtent * m : Nat)) &&
    if (s.reg 1).getLsbD 1 then (s.vramByte (base + pat / 4 * 4 * 8 + col / 8 * 16 + row)).getLsbD (7 - col % 8)
    else (s.vramByte (base + pat * 8 + row)).getLsbD (7 - col)

end Sys2Proof.Machine

/-! ## Rendering one line -/

/-- 44_background_legacy R236: with the display off, every renderer fills line SD with its mode's backdrop; the scratch arrays
are clear and no sprite flag changes. -/
def Obligations.DisplayOffFillsTheLine : Prop :=
  ∀ (s : State) (i : Instr) (hsel : BitVec 2) (m3 m2 m1 : Bool), (s.reg 1).getLsbD 6 = false → s.beam.sd < 240 →
    (i = .mode4 hsel m3 m2 m1 ∨ i = .graphics1 hsel ∨ i = .graphics2 hsel ∨ i = .multicolour hsel ∨ i = .text hsel ∨
      i = .fallback3 hsel ∨ i = .fallback5 hsel ∨ i = .fallback6 hsel ∨ i = .fallback7 hsel) →
    Completes i s fun t =>
      let bd := if i = .mode4 hsel m3 m2 m1 then s.cramColour (16 + (s.regNat 7 &&& 0x0F))
                else s.fixedColour (s.regNat 7 &&& 0x0F)
      t = { s with pb := t.pb, cachedBackdrop := bd, scratch := ⟨0, 0, 0, 0⟩ } ∧
      (∀ x, x < 256 → t.pixel s.beam.sd x = bd) ∧
      (∀ y x, y ≠ s.beam.sd → t.pixel y x = s.pixel y x)

/-- What a displayed line without sprites changes: line SD, CachedBackdrop and the foreground flags. -/
def Sys2Proof.Machine.PlainLine (s t : State) (bd : Colour) (pixel : Nat → Colour) : Prop :=
  t = { s with pb := t.pb, cachedBackdrop := bd, scratch := ⟨t.scratch.fg, 0, 0, 0⟩ } ∧
  (∀ x, x < 256 → t.pixel s.beam.sd x = pixel x) ∧
  (∀ y x, y ≠ s.beam.sd → t.pixel y x = s.pixel y x)

/-- 44_background_legacy R221: a nibble's colour, 0 being the backdrop. -/
def Sys2Proof.Machine.legacyColourOf (s : State) (n : Nat) : Colour :=
  if n = 0 then s.fixedColour (s.regNat 7 &&& 0x0F) else s.fixedColour n

/-- 44_background_legacy R222, R93: the Graphics I line, where no sprite covers it. -/
def Obligations.Graphics1Line : Prop :=
  ∀ (s : State) (hsel : BitVec 2), (s.reg 1).getLsbD 6 = true → s.inputs.cfg.backgroundLayerEnabled = true →
    s.beam.sd < 240 → s.legacyFound s.beam.sd = [] → Completes (.graphics1 hsel) s fun t =>
      t.scratch.fg = 0 ∧ PlainLine s t (s.fixedColour (s.regNat 7 &&& 0x0F)) fun x =>
        let y := s.beam.sd
        let nt := (s.regNat 2 &&& 0x0F) <<< 10
        let pg := (s.regNat 4 &&& 0x07) <<< 11
        let ct := s.regNat 3 <<< 6
        let name := s.vramNat (nt + (y >>> 3) * 32 + (x >>> 3))
        let pbyte := s.vramByte (pg + name * 8 + (y &&& 7))
        let cbyte := s.vramNat (ct + (name >>> 3))
        legacyColourOf s (if pbyte.getLsbD (7 - (x &&& 7)) then cbyte >>> 4 else cbyte &&& 0x0F)

/-- 44_background_legacy R223, R224: the Graphics II line, where no sprite covers it. -/
def Obligations.Graphics2Line : Prop :=
  ∀ (s : State) (hsel : BitVec 2), (s.reg 1).getLsbD 6 = true → s.inputs.cfg.backgroundLayerEnabled = true →
    s.beam.sd < 240 → s.legacyFound s.beam.sd = [] → Completes (.graphics2 hsel) s fun t =>
      t.scratch.fg = 0 ∧ PlainLine s t (s.fixedColour (s.regNat 7 &&& 0x0F)) fun x =>
        let y := s.beam.sd
        let nt := (s.regNat 2 &&& 0x0F) <<< 10
        let name := s.vramNat (nt + (y >>> 3) * 32 + (x >>> 3))
        let idx := ((y >>> 6) <<< 8) ||| name
        let pa := ((s.regNat 4 &&& 0x04) <<< 11) + (idx &&& (((s.regNat 4 &&& 0x03) <<< 8) ||| 0xFF)) * 8 + (y &&& 7)
        let ca := ((s.regNat 3 &&& 0x80) <<< 6) + (idx &&& (((s.regNat 3 &&& 0x7F) <<< 3) ||| 0x07)) * 8 + (y &&& 7)
        let cbyte := s.vramNat ca
        legacyColourOf s (if (s.vramByte pa).getLsbD (7 - (x &&& 7)) then cbyte >>> 4 else cbyte &&& 0x0F)

/-- 44_background_legacy R225: the Multicolour line, where no sprite covers it. -/
def Obligations.MulticolourLine : Prop :=
  ∀ (s : State) (hsel : BitVec 2), (s.reg 1).getLsbD 6 = true → s.inputs.cfg.backgroundLayerEnabled = true →
    s.beam.sd < 240 → s.legacyFound s.beam.sd = [] → Completes (.multicolour hsel) s fun t =>
      t.scratch.fg = 0 ∧ PlainLine s t (s.fixedColour (s.regNat 7 &&& 0x0F)) fun x =>
        let y := s.beam.sd
        let nt := (s.regNat 2 &&& 0x0F) <<< 10
        let pg := (s.regNat 4 &&& 0x07) <<< 11
        let name := s.vramNat (nt + (y >>> 3) * 32 + (x >>> 3))
        let mbyte := s.vramNat (pg + name * 8 + ((y >>> 3) &&& 3) * 2 + ((y >>> 2) &&& 1))
        legacyColourOf s (if x / 4 % 2 = 0 then mbyte >>> 4 else mbyte &&& 0x0F)

/-- 44_background_legacy R226, R227, R228: the Text line. No sprites are drawn and no sprite flag changes. -/
def Obligations.TextLine : Prop :=
  ∀ (s : State) (hsel : BitVec 2), (s.reg 1).getLsbD 6 = true → s.inputs.cfg.backgroundLayerEnabled = true →
    s.beam.sd < 240 → Completes (.text hsel) s fun t =>
      t.scratch.fg = 0 ∧ PlainLine s t (s.fixedColour (s.regNat 7 &&& 0x0F)) fun x =>
        let y := s.beam.sd
        let nt := (s.regNat 2 &&& 0x0F) <<< 10
        let pg := (s.regNat 4 &&& 0x07) <<< 11
        let name := s.vramNat (nt + (y >>> 3) * 40 + (x - 8) / 6)
        let pbyte := s.vramByte (pg + name * 8 + (y &&& 7))
        if x < 8 ∨ 247 < x then s.fixedColour (s.regNat 7 &&& 0x0F)
        else legacyColourOf s (if pbyte.getLsbD (7 - (x - 8) % 6) then s.regNat 7 >>> 4 else s.regNat 7 &&& 0x0F)

/-- 44_background_legacy R229: each of the four fallback modes fills the line with the legacy backdrop; FG stays 0 and no sprites
are drawn, whatever the background layer switch. -/
def Obligations.FallbackFillsTheLine : Prop :=
  ∀ (s : State) (hsel : BitVec 2) (i : Instr), (s.reg 1).getLsbD 6 = true → s.beam.sd < 240 →
    (i = .fallback3 hsel ∨ i = .fallback5 hsel ∨ i = .fallback6 hsel ∨ i = .fallback7 hsel) →
    Completes i s fun t =>
      t.scratch.fg = 0 ∧
      PlainLine s t (s.fixedColour (s.regNat 7 &&& 0x0F)) fun _ => s.fixedColour (s.regNat 7 &&& 0x0F)

/-- 43_background_mode4 R192 to R202: the Mode 4 line by its slot loop, at every height, where no sprite covers it. -/
def Obligations.Mode4Line : Prop :=
  ∀ (s : State) (hsel : BitVec 2) (m3 m2 m1 : Bool), (s.reg 1).getLsbD 6 = true →
    s.inputs.cfg.backgroundLayerEnabled = true → s.beam.sd < 240 → s.modernFound s.beam.sd = [] →
    Completes (.mode4 hsel m3 m2 m1) s fun t =>
      let y := s.beam.sd
      let bd := s.cramColour (16 + (s.regNat 7 &&& 0x0F))
      (∃ pixel, PlainLine s t bd pixel) ∧
      ∀ k p, k < 32 → p < 8 →
        let scrollX := if (s.reg 0).getLsbD 6 = true ∧ y < 16 then 0 else s.regNat 8
        let coarse := scrollX >>> 3
        let fine := scrollX &&& 7
        let nt := if s.latched.h = .h192 then (s.regNat 2 &&& 0x0E) <<< 10
                  else ((s.regNat 2 &&& 0x0C) <<< 10) ||| 0x700
        let wrap := if s.latched.h = .h192 then 224 else 256
        let ys := if (s.reg 0).getLsbD 7 = true ∧ 24 ≤ k then 0 else s.latched.yScroll.toNat
        let vrow := (y + ys) % wrap
        let col := (((k : Int) - coarse) % 32).toNat
        let ea0 := (nt + (vrow >>> 3) * 64 + col * 2) % 0x4000
        let mirror := s.inputs.cfg.supportsMirroredNameTable = true ∧ (s.reg 2).getLsbD 0 = s.params.mirrorOnR2Bit0
        let ea := if mirror ∧ ea0 / 0x400 % 2 = 1 then ea0 - 0x400 else ea0
        let w := s.vramNat ea + 256 * s.vramNat (ea + 1)
        let fr := if w / 1024 % 2 = 1 then 7 - (vrow &&& 7) else vrow &&& 7
        let c := if w / 512 % 2 = 1 then 7 - p else p
        let plane := fun q => ((s.vramByte (w % 512 * 32 + fr * 4 + q)).getLsbD (7 - c)).toNat
        let ci := plane 0 + 2 * plane 1 + 4 * plane 2 + 8 * plane 3
        let x := (k * 8 + fine + p) % 256
        let blanked := (s.reg 0).getLsbD 5 = true ∧ x < 8
        t.pixel y x = (if blanked then bd else s.cramColour (ci + 16 * (w / 2048 % 2))) ∧
        (t.scratch.fg.getLsbD x = true ↔ ¬ blanked ∧ w / 4096 % 2 = 1 ∧ ci ≠ 0)

/-- 44_background_legacy R237: with the background layer off and the display on, every renderer's background pixels are replaced by
the backdrop, and the foreground flags stay those of the background renderer. Where no sprite covers the line. -/
def Obligations.LayerOffKeepsForegroundFlags : Prop :=
  ∀ (s : State) (i : Instr) (hsel : BitVec 2) (m3 m2 m1 : Bool), (s.reg 1).getLsbD 6 = true → s.beam.sd < 240 →
    s.modernFound s.beam.sd = [] → s.legacyFound s.beam.sd = [] →
    s.inputs.cfg.backgroundLayerEnabled = false →
    (i = .mode4 hsel m3 m2 m1 ∨ i = .graphics1 hsel ∨ i = .graphics2 hsel ∨ i = .multicolour hsel ∨ i = .text hsel) →
    ∃ t u, exec i s = .next t ∧
      exec i { s with inputs := { s.inputs with cfg := { s.inputs.cfg with backgroundLayerEnabled := true } } } = .next u ∧
      t.scratch = u.scratch ∧ t.flags = s.flags ∧ t.cachedBackdrop = u.cachedBackdrop ∧
      ∀ x, x < 256 → t.pixel s.beam.sd x = t.cachedBackdrop

/-! ## Sprites -/

/-- 45_sprites R251, R252, R255, R256, R257: on a displayed Mode 4 line the first opaque pixel, in table order, of the entries
shown wins each column, unless a foreground background pixel or the blanked left column hides it. Nothing else changes but
CachedBackdrop, the scratch arrays and the sprite flags. -/
def Obligations.FirstOpaqueModernSpriteWins : Prop :=
  ∀ (s : State) (hsel : BitVec 2) (m3 m2 m1 : Bool), (s.reg 1).getLsbD 6 = true → s.beam.sd < 240 →
    Completes (.mode4 hsel m3 m2 m1) s fun t =>
      let y := s.beam.sd
      let bd := s.mode4Backdrop
      t = { s with pb := t.pb, cachedBackdrop := bd, scratch := t.scratch, flags := t.flags } ∧
      (∀ r x, r ≠ y → t.pixel r x = s.pixel r x) ∧
      ∀ x : Nat, x < 256 →
        t.scratch.fg.getLsbD x = s.mode4Fg y x ∧
        t.pixel y x =
          (let background := if s.inputs.cfg.backgroundLayerEnabled then s.mode4Pixel y bd x else bd
           if s.mode4Fg y x = true ∨ ((s.reg 0).getLsbD 5 = true ∧ x < 8) then background
           else match (s.modernShown y).find? fun i => decide (s.modernAt i y x ≠ 0) with
             | some i => s.cramColour (16 + s.modernAt i y x)
             | none => background)

/-- 45_sprites R255, R258, R273: the sprite flags after a displayed Mode 4 line. -/
def Obligations.ModernSpriteFlags : Prop :=
  ∀ (s : State) (hsel : BitVec 2) (m3 m2 m1 : Bool), (s.reg 1).getLsbD 6 = true →
    Completes (.mode4 hsel m3 m2 m1) s fun t =>
      let y := s.beam.sd
      (t.flags.spriteOverflow = true ↔
        s.flags.spriteOverflow = true ∨ s.modernCap < (s.modernFound y).length) ∧
      (t.flags.overflowIndex =
        match (s.modernFound y)[s.modernCap]? with
        | some i => BitVec.ofNat 6 i
        | none => s.flags.overflowIndex) ∧
      (t.flags.spriteCollision = true ↔
        s.flags.spriteCollision = true ∨
        ∃ x : Nat, x < 256 ∧ twoOf (s.modernShown y) (fun i => decide (s.modernAt i y x ≠ 0)) = true) ∧
      t.flags.framePending = s.flags.framePending ∧ t.flags.linePending = s.flags.linePending

/-- The three renderers with legacy sprites (45_sprites R250), each with its background pixel. -/
def Sys2Proof.Machine.LegacySpriteMode (i : Instr) (hsel : BitVec 2) (pixel : State → Nat → Colour → Nat → Colour) : Prop :=
  (i = .graphics1 hsel ∧ pixel = State.graphics1Pixel) ∨ (i = .graphics2 hsel ∧ pixel = State.graphics2Pixel) ∨
  (i = .multicolour hsel ∧ pixel = State.multicolourPixel)

/-- 45_sprites R265 to R269: on a displayed line of Graphics I, Graphics II or Multicolour the first set pixel of a non-zero
colour, in table order, of the entries shown wins each column. Nothing else changes but CachedBackdrop, the scratch arrays and the
sprite flags. -/
def Obligations.FirstColouredLegacySpriteWins : Prop :=
  ∀ (s : State) (i : Instr) (hsel : BitVec 2) (pixel : State → Nat → Colour → Nat → Colour),
    LegacySpriteMode i hsel pixel → (s.reg 1).getLsbD 6 = true → s.beam.sd < 240 → Completes i s fun t =>
      let y := s.beam.sd
      let bd := s.legacyBackdrop
      t = { s with pb := t.pb, cachedBackdrop := bd, scratch := t.scratch, flags := t.flags } ∧
      (∀ r x, r ≠ y → t.pixel r x = s.pixel r x) ∧
      ∀ x : Nat, x < 256 →
        t.pixel y x =
          match (s.legacyShown y).find? fun j => s.legacyAt j y x && decide (s.legacySpriteColour j ≠ 0) with
          | some j => s.fixedColour (s.legacySpriteColour j)
          | none => if s.inputs.cfg.backgroundLayerEnabled then pixel s y bd x else bd

/-- 45_sprites R268, R270, R273: the sprite flags after a displayed line with legacy sprites. Off-screen and colour-0 pixels
collide too. -/
def Obligations.LegacySpriteFlags : Prop :=
  ∀ (s : State) (i : Instr) (hsel : BitVec 2) (pixel : State → Nat → Colour → Nat → Colour),
    LegacySpriteMode i hsel pixel → (s.reg 1).getLsbD 6 = true → Completes i s fun t =>
      let y := s.beam.sd
      (t.flags.spriteOverflow = true ↔
        s.flags.spriteOverflow = true ∨ s.inputs.cfg.legacySpriteCap < (s.legacyFound y).length) ∧
      (t.flags.overflowIndex =
        match (s.legacyFound y)[s.inputs.cfg.legacySpriteCap]? with
        | some j => BitVec.ofNat 6 j
        | none => s.flags.overflowIndex) ∧
      (t.flags.spriteCollision = true ↔
        s.flags.spriteCollision = true ∨
        ∃ x : Int, -32 ≤ x ∧ x ≤ 287 ∧ twoOf (s.legacyShown y) (fun j => s.legacyAt j y x) = true) ∧
      t.flags.framePending = s.flags.framePending ∧ t.flags.linePending = s.flags.linePending

/-- 45_sprites R273: the line step and the renderers only ever set the sprite flags, and OverflowIndex changes only with an
overflow. -/
def Obligations.SpriteFlagsOnlyAccumulate : Prop :=
  ∀ (s t : State) (i : Instr), exec i s = .next t → (∀ m, i ≠ .flagclr m) →
    (s.flags.spriteOverflow = true → t.flags.spriteOverflow = true) ∧
    (s.flags.spriteCollision = true → t.flags.spriteCollision = true) ∧
    (t.flags.overflowIndex ≠ s.flags.overflowIndex → t.flags.spriteOverflow = true)

/-! ## Colours and the frame assembler -/

/-- 30_encoding R94, R95: the colours of the CRAM palette in both formats, the entry taken modulo 32, and the sixteen colours of both
fixed palettes. 00_scope R13: every colour a renderer stores in line SD is fully opaque, and so is CachedBackdrop. -/
def Obligations.RenderedLinesAreOpaque : Prop :=
  (∀ (s : State) (i : Nat), s.params.cramFormat = .sms →
    let b := (s.cram.read (i % 32)).toNat
    let c := s.cramColour i
    redOf c = b % 4 * 85 ∧ greenOf c = b / 4 % 4 * 85 ∧ blueOf c = b / 16 % 4 * 85 ∧ opaqueColour c = true) ∧
  (∀ (s : State) (i : Nat), s.params.cramFormat = .gg →
    let low := (s.cram.read (2 * (i % 32))).toNat
    let high := (s.cram.read (2 * (i % 32) + 1)).toNat
    let c := s.cramColour i
    redOf c = low % 16 * 17 ∧ greenOf c = low / 16 * 17 ∧ blueOf c = high % 16 * 17 ∧ opaqueColour c = true) ∧
  (∀ s : State, s.inputs.cfg.fixedPalette = .masterSystem → (List.range 16).map s.fixedColour =
    [0xFF000000, 0xFF000000, 0xFF00AA00, 0xFF00FF00, 0xFF000055, 0xFF0000FF, 0xFF550000, 0xFF00FFFF,
     0xFFAA0000, 0xFFFF0000, 0xFF555500, 0xFFFFFF00, 0xFF005500, 0xFFFF00FF, 0xFF555555, 0xFFFFFFFF]) ∧
  (∀ s : State, s.inputs.cfg.fixedPalette = .tms9918 → (List.range 16).map s.fixedColour =
    [0xFF000000, 0xFF000000, 0xFF21C842, 0xFF5EDC78, 0xFF5455ED, 0xFF7D76FC, 0xFFD4524D, 0xFF42EBF5,
     0xFFFC5554, 0xFFFF7978, 0xFFD4C154, 0xFFE6CE80, 0xFF21B03B, 0xFFC95BBA, 0xFFCCCCCC, 0xFFFFFFFF]) ∧
  ∀ (s : State) (rr : Renderer), (∃ v, rendererOf (selectRenderer v) = some rr) → s.beam.sd < 240 →
    opaqueColour (s.renderLineWith rr s.beam.sd).cachedBackdrop = true ∧
    ∀ x, x < 256 → opaqueColour ((s.renderLineWith rr s.beam.sd).pixel s.beam.sd x) = true

/-- 46_frame_assembler R290 to R294: each channel of a blend is the floor of the mean, and the alpha is 0xFF; blends of one opaque
colour give it back, they are symmetric, and each channel lies between the least and the greatest of the arguments'. -/
def Obligations.BlendsAreFloorMeans : Prop :=
  (∀ a b : Colour, ∀ ch ∈ [redOf, greenOf, blueOf], ch (blendHalf a b) = (ch a + ch b) / 2) ∧
  (∀ a b c : Colour, ∀ ch ∈ [redOf, greenOf, blueOf], ch (blendThird a b c) = (ch a + ch b + ch c) / 3) ∧
  (∀ a b c d : Colour, ∀ ch ∈ [redOf, greenOf, blueOf],
    ch (blendQuarter a b c d) = (ch a + ch b + ch c + ch d) / 4) ∧
  (∀ p0 p1 p2 p3 p4 p5 p6 p7 : Colour, ∀ ch ∈ [redOf, greenOf, blueOf],
    ch (blendEighth p0 p1 p2 p3 p4 p5 p6 p7) =
      (ch p0 + ch p1 + ch p2 + ch p3 + ch p4 + ch p5 + ch p6 + ch p7) / 8) ∧
  (∀ cs : List Colour, cs ≠ [] → opaqueColour (blend cs) = true) ∧
  (∀ (c : Colour) (n : Nat), opaqueColour c = true → 0 < n → blend (List.replicate n c) = c) ∧
  (∀ cs ds : List Colour, cs.Perm ds → blend cs = blend ds) ∧
  (∀ (cs : List Colour) (lo hi : Nat), cs ≠ [] → ∀ ch ∈ [redOf, greenOf, blueOf],
    (∀ c ∈ cs, lo ≤ ch c ∧ ch c ≤ hi) → lo ≤ ch (blend cs) ∧ ch (blend cs) ≤ hi) ∧
  blendHalf 0xFFFF0000 0xFF0000FF = 0xFF7F007F ∧ blendThird 0xFF030303 0xFF000000 0xFF000001 = 0xFF010101

/-- 46_frame_assembler R297, R298: in Normal mode EndFrame copies rows 0..H−1 verbatim; in Cropped mode it copies the 160 × 144
window at column 48 and row CROP_Y(H). -/
def Obligations.FrameCopies : Prop :=
  ∀ s : State, s.beam.sd + 1 = frameIntLine s.latched.h → Completes .line s fun t =>
    ∃ rows, t.frame.image = .assembled rows ∧
    (s.latched.resize = .normal →
      rows.length = s.latched.h.toNat ∧ (∀ row ∈ rows, row.length = 256) ∧
      ∀ r c, r < s.latched.h.toNat → c < 256 → t.frame.image.pixel r c = t.pixel r c) ∧
    (s.latched.resize = .cropped →
      rows.length = 144 ∧ (∀ row ∈ rows, row.length = 160) ∧
      ∀ r c, r < 144 → c < 160 → t.frame.image.pixel r c = t.pixel (r + s.params.cropY.get s.latched.h) (c + 48))

/-- 46_frame_assembler R301, R302: the reference downscaler at 192 lines: margins of the last backdrop, and between them 3 rows to
2 and 8 columns to 5. -/
def Obligations.ReferenceDownscale : Prop :=
  ∀ s : State, s.params.wellFormed = true → s.beamOk = true → s.params.hwScale = .reference →
    s.latched.resize = .scaled → s.beam.sd + 1 = frameIntLine s.latched.h → Completes .line s fun t =>
      let hrow := fun (r g j : Nat) =>
        let o := if j = 0 then 0 else if j = 1 then 1 else if j = 2 then 3 else if j = 3 then 5 else 6
        blendHalf (s.pixel r (8 * g + o)) (s.pixel r (8 * g + o + 1))
      let pair := fun (first out g j : Nat) =>
        t.frame.image.pixel out (5 * g + j) = blendThird (hrow first g j) (hrow first g j) (hrow (first + 1) g j) ∧
        t.frame.image.pixel (out + 1) (5 * g + j) =
          blendThird (hrow (first + 1) g j) (hrow (first + 2) g j) (hrow (first + 2) g j)
      ∀ g j, g < 32 → j < 5 →
        (s.latched.h = .h192 →
          (∀ r, r < 8 ∨ (136 ≤ r ∧ r < 144) → t.frame.image.pixel r (5 * g + j) = s.cachedBackdrop) ∧
          ∀ k, k < 64 → pair (3 * k) (8 + 2 * k) g j) ∧
        (s.latched.h ≠ .h192 → ∀ k, k < 72 → pair ((s.latched.h.toNat - 216) / 2 + 3 * k) (2 * k) g j)

/-- 46_frame_assembler R300: the contract of every downscaler the block may be built with, the reference or any other, said of the image
that LINE stores: it is 160 × 144, each pixel is made by BlendHalf and BlendThird from rows 0..H−1 and the backdrop, an image of one opaque
colour maps to an image of that colour, and another block with the same downscaler, height, rows and backdrop stores the same image.
That another downscaler than the reference is a free value is the model's choice (log 10). -/
def Obligations.DownscalerContract : Prop :=
  let scales := fun s : State => s.params.wellFormed = true ∧ s.beamOk = true ∧ s.latched.resize = .scaled ∧
    s.beam.sd + 1 = frameIntLine s.latched.h
  ∀ s : State, scales s → Completes .line s fun t =>
    ∃ rows, t.frame.image = .assembled rows ∧
    rows.length = 144 ∧ (∀ row ∈ rows, row.length = 160) ∧
    (∀ row ∈ rows, ∀ p ∈ row, ∃ e : ScaleExpr, p = evalScale s.pixel s.latched.h.toNat s.cachedBackdrop e) ∧
    (∀ c : Colour, opaqueColour c = true → s.cachedBackdrop = c →
      (∀ y x, y < s.latched.h.toNat → x < 256 → s.pixel y x = c) → ∀ row ∈ rows, ∀ p ∈ row, p = c) ∧
    (∀ u : State, scales u → u.params.hwScale = s.params.hwScale → u.latched.h = s.latched.h →
      u.cachedBackdrop = s.cachedBackdrop → (∀ y x, y < s.latched.h.toNat → x < 256 → u.pixel y x = s.pixel y x) →
      Completes .line u fun v => v.frame.image = .assembled rows)

/-! ## Tables -/

/-- 41_counter_tables R142, R145: the spec's region table sums to the frame in every profile, and the vertical counter has one byte a
line, reads the line number up to its jump, and reads the frame-interrupt line on that line. -/
def Obligations.CounterTablesFitTheFrame : Prop :=
  Params.default.wellFormed = true ∧
  (∀ (p : Params) (sys : TvSystem) (h : Height), (vTable p sys h).length = linesPerFrame sys ∧
    ∀ row, row < linesPerFrame sys → row ≤ p.vcThreshold.get sys h → row ≤ 0xFF →
      (vTable p sys h)[row]? = some (BitVec.ofNat 8 row)) ∧
  (∀ (sys : TvSystem) (h : Height),
    (vTable Params.default sys h)[frameIntLine h]? = some (BitVec.ofNat 8 (frameIntLine h)) ∧
    frameIntLine h < linesPerFrame sys)

/-! ## Whole-machine rules -/

/-- 10_state R21, R35, R36: only REGWR changes a register, only VRAMWR changes VRAM, only CRAMWR changes CRAM. -/
def Obligations.OnlyWritePortsWrite : Prop :=
  ∀ (s t : State) (i : Instr), exec i s = .next t →
    (t.regs ≠ s.regs → ∃ r v, i = .regwr r v) ∧
    (t.vram ≠ s.vram → ∃ a v, i = .vramwr a v) ∧
    (t.cram ≠ s.cram → ∃ a v, i = .cramwr a v)

/-- 10_state R53: no command other than LINE changes the position in the frame (nor does a renderer by itself). 42_beam R160, R176: the
latched values change only in a line step that begins a frame. -/
def Obligations.OnlyLineMovesTheBeam : Prop :=
  ∀ (s t : State) (i : Instr), exec i s = .next t →
    (i ≠ .line → t.beam = s.beam ∧ t.lineStartCycles = s.lineStartCycles ∧ t.lineCounter = s.lineCounter ∧
      t.frame = s.frame) ∧
    (t.latched ≠ s.latched → i = .line ∧ t.beam.sd = 0)

/-- 60_exceptions R326: no instruction but FLAGCLR clears FramePending or LinePending. -/
def Obligations.OnlyFlagclrClearsInterrupts : Prop :=
  ∀ (s t : State) (i : Instr), exec i s = .next t →
    (s.flags.framePending = true ∧ t.flags.framePending = false) ∨
      (s.flags.linePending = true ∧ t.flags.linePending = false) →
    ∃ m, i = .flagclr m

/-- 10_state R20: R[11]..R[15] are read back by nothing: whatever they hold, every instruction but a REGWR does the same. -/
def Obligations.SpareRegistersAreReadByNothing : Prop :=
  ∀ (s t : State) (i : Instr) (r : BitVec 4) (v : Byte), 11 ≤ r.toNat → (∀ q w, i ≠ .regwr q w) →
    exec i s = .next t → exec i (s.setReg r v) = .next (t.setReg r v)

/-- 44_background_legacy R230: the legacy, Text, Multicolour and fallback renderers do not use the scrolls, the locks, LCB or
mirroring: R[0], R[8], R[9], the latched Y scroll and the mirroring capability do not matter to them. -/
def Obligations.LegacyModesIgnoreScroll : Prop :=
  ∀ (s t : State) (i : Instr) (hsel : BitVec 2) (r : BitVec 4) (v ys : Byte) (mirror : Bool),
    (i = .graphics1 hsel ∨ i = .graphics2 hsel ∨ i = .multicolour hsel ∨ i = .text hsel ∨
      i = .fallback3 hsel ∨ i = .fallback5 hsel ∨ i = .fallback6 hsel ∨ i = .fallback7 hsel) →
    (r = 0 ∨ r = 8 ∨ r = 9) → exec i s = .next t →
    t.scratch.fg = 0 ∧
    exec i { s.setReg r v with
        latched := { s.latched with yScroll := ys }
        inputs := { s.inputs with cfg := { s.inputs.cfg with supportsMirroredNameTable := mirror } } } =
      .next { t.setReg r v with
        latched := { s.latched with yScroll := ys }
        inputs := { s.inputs with cfg := { s.inputs.cfg with supportsMirroredNameTable := mirror } } }

/-! ## Reset and invariants -/

/-- 70_reset R350: reset with a valid video system, from any state, Faulted or not. The contents of the frame buffer are a free
value (log 8). -/
def Obligations.ResetState : Prop :=
  ∀ (s : State) (c : Cycle) (rest : List HostInput),
    s.inputs.pending = .reset c :: rest → s.inputs.cfg.videoSystem ≠ .invalid →
    ∃ t n, step s = .next t ∧
      (∀ j : Fin 16, (t.reg j).toNat =
        if j = 0 then 8 * s.inputs.cfg.earlyClockDefault.toNat
        else if j = 1 then 2 * s.inputs.cfg.joinSpritesDefault.toNat + s.inputs.cfg.zoomDefault.toNat else 0) ∧
      t.vram = s.params.initVram ∧ t.cram = s.params.initCram ∧ t.pb = s.params.initPixels ∧
      t.beam = ⟨.activeDisplay, (s.params.regionLen.get t.latched.sys t.latched.h).activeDisplay, 0⟩ ∧
      (t.latched.sys = .pal ↔ s.inputs.cfg.videoSystem = .pal) ∧
      t.latched.h = s.inputs.cfg.verticalResolution ∧ t.latched.yScroll = 0 ∧
      t.latched.resize = s.inputs.cfg.resizingMode ∧
      (t.latched.outW, t.latched.outH) =
        (if s.inputs.cfg.resizingMode = .normal then (256, s.inputs.cfg.verticalResolution.toNat) else (160, 144)) ∧
      t.frame = ⟨.unspecified n, t.latched.outW, t.latched.outH⟩ ∧
      t.flags = ⟨false, false, false, false, 0⟩ ∧ t.lineCounter = 0 ∧ t.lineStartCycles = c ∧
      t.cachedBackdrop = 0xFF000000 ∧ t.scratch = ⟨0, 0, 0, 0⟩ ∧ t.fault = none ∧ t.outputs = ⟨0, false⟩ ∧
      t.params = s.params ∧ t.inputs = ⟨s.inputs.cfg, c, rest⟩

/-- The invariant holds right after reset. -/
def Obligations.InvariantAtReset : Prop := State.reset.Inv = true

/-- 42_beam R175, 10_state R38, R42, R44, R45: every step keeps the invariant: canonical memories inside their address spaces, the
beam inside its region, LineCounter in 0..255, legal frame dimensions and an image of that size, the latched values consistent,
CachedBackdrop opaque. -/
def Obligations.EveryStepKeepsTheInvariant : Prop :=
  ∀ s t : State, s.Inv = true → step s = .next t → t.Inv = true

/-- 60_exceptions R321, R322, R323: a block whose host presents no illegal word and no invalid video system never faults. -/
def Obligations.SafeRunsNeverFault : Prop :=
  ∀ s t : State, s.Safe = true → step s = .next t → t.Safe = true
end

