-- ==== Sys2Proof/Laws/Memory.lean ====
section
/-! SUPPORT. Byte memory: reading after writing, and that writing keeps the canonical form and the address range. -/

namespace Sys2Proof

theorem Memory.wfFrom_cons {lo a : Nat} {v : Byte} {rest : Memory} :
    Memory.wfFrom lo ((a, v) :: rest) = true ↔ lo ≤ a ∧ v ≠ Memory.unlisted ∧ Memory.wfFrom (a + 1) rest = true := by
  simp [Memory.wfFrom, and_assoc]

/-- A canonical form from a bound on is one from any lower bound on. -/
theorem Memory.wfFrom_mono {lo hi : Nat} {m : Memory} (h : lo ≤ hi) (hm : Memory.wfFrom hi m = true) :
    Memory.wfFrom lo m = true := by
  cases m with
  | nil => rfl
  | cons c rest =>
    obtain ⟨a, v⟩ := c
    rw [Memory.wfFrom_cons] at hm ⊢
    exact ⟨h.trans hm.1, hm.2⟩

/-- An address below the bound is not listed. -/
theorem Memory.read_below {lo a : Nat} {m : Memory} (hm : Memory.wfFrom lo m = true) (h : a < lo) :
    m.read a = Memory.unlisted := by
  induction m generalizing lo with
  | nil => rfl
  | cons c rest ih =>
    obtain ⟨b, w⟩ := c
    obtain ⟨hb, -, hr⟩ := Memory.wfFrom_cons.mp hm
    have hab : a ≠ b := by omega
    simpa [Memory.read, hab] using ih hr (by omega)

theorem Memory.read_cons {lo a b : Nat} {v : Byte} {rest : Memory} (hr : Memory.wfFrom lo rest = true) (h : a < lo) :
    (Memory.cons a v rest).read b = if b = a then v else rest.read b := by
  unfold Memory.cons
  by_cases hv : v = Memory.unlisted
  · by_cases hb : b = a
    · subst hb; simp [hv, Memory.read_below hr h]
    · simp [hv, hb]
  · simp [hv, Memory.read]

theorem Memory.wfFrom_consCell {lo a : Nat} {v : Byte} {rest : Memory} (hl : lo ≤ a)
    (hr : Memory.wfFrom (a + 1) rest = true) : Memory.wfFrom lo (Memory.cons a v rest) = true := by
  unfold Memory.cons
  by_cases hv : v = Memory.unlisted
  · simpa [hv] using Memory.wfFrom_mono (by omega) hr
  · simp [hv, Memory.wfFrom_cons, hl, hr]

theorem Memory.wfFrom_write {lo a : Nat} {v : Byte} {m : Memory} (hm : Memory.wfFrom lo m = true) (hl : lo ≤ a) :
    Memory.wfFrom lo (m.write a v) = true := by
  induction m generalizing lo with
  | nil => exact Memory.wfFrom_consCell hl rfl
  | cons c rest ih =>
    obtain ⟨b, w⟩ := c
    obtain ⟨hb, hw, hr⟩ := Memory.wfFrom_cons.mp hm
    simp only [Memory.write]
    split
    · exact Memory.wfFrom_consCell hl (Memory.wfFrom_cons.mpr ⟨by omega, hw, hr⟩)
    · split
      · next hab => subst hab; exact Memory.wfFrom_consCell hl hr
      · exact Memory.wfFrom_cons.mpr ⟨hb, hw, ih hr (by omega)⟩

/-- What a read gives after a write, anywhere. -/
theorem Memory.wfFrom_read_write {lo a b : Nat} {v : Byte} {m : Memory} (hm : Memory.wfFrom lo m = true) :
    (m.write a v).read b = if b = a then v else m.read b := by
  induction m generalizing lo with
  | nil => exact Memory.read_cons (lo := a + 1) rfl (by omega)
  | cons c rest ih =>
    obtain ⟨d, w⟩ := c
    obtain ⟨hb, hw, hr⟩ := Memory.wfFrom_cons.mp hm
    simp only [Memory.write]
    split
    · next had => exact Memory.read_cons (lo := d) (Memory.wfFrom_cons.mpr ⟨le_refl d, hw, hr⟩) had
    · split
      · next had =>
        subst had
        rw [Memory.read_cons hr (by omega)]
        by_cases hba : b = a <;> simp [Memory.read, hba]
      · next had =>
        by_cases hbd : b = d
        · have : b ≠ a := by omega
          subst hbd; simp [Memory.read, this]
        · simp [Memory.read, hbd, ih hr]

/-- A write keeps the canonical form. -/
theorem Memory.write_wf {m : Memory} (hm : m.wf = true) (a : Nat) (v : Byte) : (m.write a v).wf = true :=
  Memory.wfFrom_write hm (Nat.zero_le a)

/-- A read after a write gives the byte written, and every other address reads as before. -/
theorem Memory.read_write {m : Memory} (hm : m.wf = true) (a b : Nat) (v : Byte) :
    (m.write a v).read b = if b = a then v else m.read b :=
  Memory.wfFrom_read_write hm

theorem Memory.within_cons {size a : Nat} {v : Byte} {rest : Memory} (hr : rest.within size = true) (h : a < size) :
    (Memory.cons a v rest).within size = true := by
  unfold Memory.cons
  by_cases hv : v = Memory.unlisted
  · simpa [hv] using hr
  · simp only [Memory.within] at hr
    simp [hv, Memory.within, h, hr]

/-- A write inside an address space keeps the memory inside it. -/
theorem Memory.write_within {size : Nat} {m : Memory} (hm : m.within size = true) {a : Nat} (h : a < size) (v : Byte) :
    (m.write a v).within size = true := by
  induction m with
  | nil => exact Memory.within_cons rfl h
  | cons c rest ih =>
    obtain ⟨b, w⟩ := c
    have hb : b < size ∧ Memory.within size rest = true := by simpa [Memory.within] using hm
    simp only [Memory.write]
    split
    · exact Memory.within_cons hm h
    · split
      · exact Memory.within_cons hb.2 h
      · have ih' := ih hb.2
        simp only [Memory.within] at ih'
        simp [Memory.within, hb.1, ih']

end Sys2Proof
end

