-- ==== Sys2Proof/Laws/State.lean ====
section
/-! SUPPORT. The fields of State after each named update: one lemma per field and update. -/

namespace Sys2Proof.Machine

variable (s : State)

@[simp] theorem setReg_params (r : BitVec 4) (v : Byte) : (s.setReg r v).params = s.params := rfl
@[simp] theorem setReg_inputs (r : BitVec 4) (v : Byte) : (s.setReg r v).inputs = s.inputs := rfl
@[simp] theorem setReg_regs (r : BitVec 4) (v : Byte) : (s.setReg r v).regs = s.regs.set r.toNat v r.isLt := rfl
@[simp] theorem setReg_vram (r : BitVec 4) (v : Byte) : (s.setReg r v).vram = s.vram := rfl
@[simp] theorem setReg_cram (r : BitVec 4) (v : Byte) : (s.setReg r v).cram = s.cram := rfl
@[simp] theorem setReg_pb (r : BitVec 4) (v : Byte) : (s.setReg r v).pb = s.pb := rfl
@[simp] theorem setReg_frame (r : BitVec 4) (v : Byte) : (s.setReg r v).frame = s.frame := rfl
@[simp] theorem setReg_beam (r : BitVec 4) (v : Byte) : (s.setReg r v).beam = s.beam := rfl
@[simp] theorem setReg_lineCounter (r : BitVec 4) (v : Byte) : (s.setReg r v).lineCounter = s.lineCounter := rfl
@[simp] theorem setReg_lineStartCycles (r : BitVec 4) (v : Byte) : (s.setReg r v).lineStartCycles = s.lineStartCycles := rfl
@[simp] theorem setReg_latched (r : BitVec 4) (v : Byte) : (s.setReg r v).latched = s.latched := rfl
@[simp] theorem setReg_cachedBackdrop (r : BitVec 4) (v : Byte) : (s.setReg r v).cachedBackdrop = s.cachedBackdrop := rfl
@[simp] theorem setReg_flags (r : BitVec 4) (v : Byte) : (s.setReg r v).flags = s.flags := rfl
@[simp] theorem setReg_fault (r : BitVec 4) (v : Byte) : (s.setReg r v).fault = s.fault := rfl
@[simp] theorem setReg_scratch (r : BitVec 4) (v : Byte) : (s.setReg r v).scratch = s.scratch := rfl
@[simp] theorem setReg_outputs (r : BitVec 4) (v : Byte) : (s.setReg r v).outputs = s.outputs := rfl
@[simp] theorem setReg_freeFrames (r : BitVec 4) (v : Byte) : (s.setReg r v).freeFrames = s.freeFrames := rfl

@[simp] theorem setVram_params (a : Nat) (v : Byte) : (s.setVram a v).params = s.params := rfl
@[simp] theorem setVram_inputs (a : Nat) (v : Byte) : (s.setVram a v).inputs = s.inputs := rfl
@[simp] theorem setVram_regs (a : Nat) (v : Byte) : (s.setVram a v).regs = s.regs := rfl
@[simp] theorem setVram_vram (a : Nat) (v : Byte) : (s.setVram a v).vram = s.vram.write (a % 0x4000) v := rfl
@[simp] theorem setVram_cram (a : Nat) (v : Byte) : (s.setVram a v).cram = s.cram := rfl
@[simp] theorem setVram_pb (a : Nat) (v : Byte) : (s.setVram a v).pb = s.pb := rfl
@[simp] theorem setVram_frame (a : Nat) (v : Byte) : (s.setVram a v).frame = s.frame := rfl
@[simp] theorem setVram_beam (a : Nat) (v : Byte) : (s.setVram a v).beam = s.beam := rfl
@[simp] theorem setVram_lineCounter (a : Nat) (v : Byte) : (s.setVram a v).lineCounter = s.lineCounter := rfl
@[simp] theorem setVram_lineStartCycles (a : Nat) (v : Byte) : (s.setVram a v).lineStartCycles = s.lineStartCycles := rfl
@[simp] theorem setVram_latched (a : Nat) (v : Byte) : (s.setVram a v).latched = s.latched := rfl
@[simp] theorem setVram_cachedBackdrop (a : Nat) (v : Byte) : (s.setVram a v).cachedBackdrop = s.cachedBackdrop := rfl
@[simp] theorem setVram_flags (a : Nat) (v : Byte) : (s.setVram a v).flags = s.flags := rfl
@[simp] theorem setVram_fault (a : Nat) (v : Byte) : (s.setVram a v).fault = s.fault := rfl
@[simp] theorem setVram_scratch (a : Nat) (v : Byte) : (s.setVram a v).scratch = s.scratch := rfl
@[simp] theorem setVram_outputs (a : Nat) (v : Byte) : (s.setVram a v).outputs = s.outputs := rfl
@[simp] theorem setVram_freeFrames (a : Nat) (v : Byte) : (s.setVram a v).freeFrames = s.freeFrames := rfl

@[simp] theorem setCram_params (a : Nat) (v : Byte) : (s.setCram a v).params = s.params := rfl
@[simp] theorem setCram_inputs (a : Nat) (v : Byte) : (s.setCram a v).inputs = s.inputs := rfl
@[simp] theorem setCram_regs (a : Nat) (v : Byte) : (s.setCram a v).regs = s.regs := rfl
@[simp] theorem setCram_vram (a : Nat) (v : Byte) : (s.setCram a v).vram = s.vram := rfl
@[simp] theorem setCram_cram (a : Nat) (v : Byte) : (s.setCram a v).cram = s.cram.write (a % s.cramSize) v := rfl
@[simp] theorem setCram_pb (a : Nat) (v : Byte) : (s.setCram a v).pb = s.pb := rfl
@[simp] theorem setCram_frame (a : Nat) (v : Byte) : (s.setCram a v).frame = s.frame := rfl
@[simp] theorem setCram_beam (a : Nat) (v : Byte) : (s.setCram a v).beam = s.beam := rfl
@[simp] theorem setCram_lineCounter (a : Nat) (v : Byte) : (s.setCram a v).lineCounter = s.lineCounter := rfl
@[simp] theorem setCram_lineStartCycles (a : Nat) (v : Byte) : (s.setCram a v).lineStartCycles = s.lineStartCycles := rfl
@[simp] theorem setCram_latched (a : Nat) (v : Byte) : (s.setCram a v).latched = s.latched := rfl
@[simp] theorem setCram_cachedBackdrop (a : Nat) (v : Byte) : (s.setCram a v).cachedBackdrop = s.cachedBackdrop := rfl
@[simp] theorem setCram_flags (a : Nat) (v : Byte) : (s.setCram a v).flags = s.flags := rfl
@[simp] theorem setCram_fault (a : Nat) (v : Byte) : (s.setCram a v).fault = s.fault := rfl
@[simp] theorem setCram_scratch (a : Nat) (v : Byte) : (s.setCram a v).scratch = s.scratch := rfl
@[simp] theorem setCram_outputs (a : Nat) (v : Byte) : (s.setCram a v).outputs = s.outputs := rfl
@[simp] theorem setCram_freeFrames (a : Nat) (v : Byte) : (s.setCram a v).freeFrames = s.freeFrames := rfl

@[simp] theorem setRow_params (y : Nat) (row : Row) : (s.setRow y row).params = s.params := rfl
@[simp] theorem setRow_inputs (y : Nat) (row : Row) : (s.setRow y row).inputs = s.inputs := rfl
@[simp] theorem setRow_regs (y : Nat) (row : Row) : (s.setRow y row).regs = s.regs := rfl
@[simp] theorem setRow_vram (y : Nat) (row : Row) : (s.setRow y row).vram = s.vram := rfl
@[simp] theorem setRow_cram (y : Nat) (row : Row) : (s.setRow y row).cram = s.cram := rfl
@[simp] theorem setRow_pb (y : Nat) (row : Row) : (s.setRow y row).pb = s.pb.setIfInBounds y row := rfl
@[simp] theorem setRow_frame (y : Nat) (row : Row) : (s.setRow y row).frame = s.frame := rfl
@[simp] theorem setRow_beam (y : Nat) (row : Row) : (s.setRow y row).beam = s.beam := rfl
@[simp] theorem setRow_lineCounter (y : Nat) (row : Row) : (s.setRow y row).lineCounter = s.lineCounter := rfl
@[simp] theorem setRow_lineStartCycles (y : Nat) (row : Row) : (s.setRow y row).lineStartCycles = s.lineStartCycles := rfl
@[simp] theorem setRow_latched (y : Nat) (row : Row) : (s.setRow y row).latched = s.latched := rfl
@[simp] theorem setRow_cachedBackdrop (y : Nat) (row : Row) : (s.setRow y row).cachedBackdrop = s.cachedBackdrop := rfl
@[simp] theorem setRow_flags (y : Nat) (row : Row) : (s.setRow y row).flags = s.flags := rfl
@[simp] theorem setRow_fault (y : Nat) (row : Row) : (s.setRow y row).fault = s.fault := rfl
@[simp] theorem setRow_scratch (y : Nat) (row : Row) : (s.setRow y row).scratch = s.scratch := rfl
@[simp] theorem setRow_outputs (y : Nat) (row : Row) : (s.setRow y row).outputs = s.outputs := rfl
@[simp] theorem setRow_freeFrames (y : Nat) (row : Row) : (s.setRow y row).freeFrames = s.freeFrames := rfl

@[simp] theorem answer_params (rd : Word) : (s.answer rd).params = s.params := rfl
@[simp] theorem answer_inputs (rd : Word) : (s.answer rd).inputs = s.inputs := rfl
@[simp] theorem answer_regs (rd : Word) : (s.answer rd).regs = s.regs := rfl
@[simp] theorem answer_vram (rd : Word) : (s.answer rd).vram = s.vram := rfl
@[simp] theorem answer_cram (rd : Word) : (s.answer rd).cram = s.cram := rfl
@[simp] theorem answer_pb (rd : Word) : (s.answer rd).pb = s.pb := rfl
@[simp] theorem answer_frame (rd : Word) : (s.answer rd).frame = s.frame := rfl
@[simp] theorem answer_beam (rd : Word) : (s.answer rd).beam = s.beam := rfl
@[simp] theorem answer_lineCounter (rd : Word) : (s.answer rd).lineCounter = s.lineCounter := rfl
@[simp] theorem answer_lineStartCycles (rd : Word) : (s.answer rd).lineStartCycles = s.lineStartCycles := rfl
@[simp] theorem answer_latched (rd : Word) : (s.answer rd).latched = s.latched := rfl
@[simp] theorem answer_cachedBackdrop (rd : Word) : (s.answer rd).cachedBackdrop = s.cachedBackdrop := rfl
@[simp] theorem answer_flags (rd : Word) : (s.answer rd).flags = s.flags := rfl
@[simp] theorem answer_fault (rd : Word) : (s.answer rd).fault = s.fault := rfl
@[simp] theorem answer_scratch (rd : Word) : (s.answer rd).scratch = s.scratch := rfl
@[simp] theorem answer_outputs (rd : Word) : (s.answer rd).outputs = ⟨rd, false⟩ := rfl
@[simp] theorem answer_freeFrames (rd : Word) : (s.answer rd).freeFrames = s.freeFrames := rfl

@[simp] theorem pulse_params : (s.pulse).params = s.params := rfl
@[simp] theorem pulse_inputs : (s.pulse).inputs = s.inputs := rfl
@[simp] theorem pulse_regs : (s.pulse).regs = s.regs := rfl
@[simp] theorem pulse_vram : (s.pulse).vram = s.vram := rfl
@[simp] theorem pulse_cram : (s.pulse).cram = s.cram := rfl
@[simp] theorem pulse_pb : (s.pulse).pb = s.pb := rfl
@[simp] theorem pulse_frame : (s.pulse).frame = s.frame := rfl
@[simp] theorem pulse_beam : (s.pulse).beam = s.beam := rfl
@[simp] theorem pulse_lineCounter : (s.pulse).lineCounter = s.lineCounter := rfl
@[simp] theorem pulse_lineStartCycles : (s.pulse).lineStartCycles = s.lineStartCycles := rfl
@[simp] theorem pulse_latched : (s.pulse).latched = s.latched := rfl
@[simp] theorem pulse_cachedBackdrop : (s.pulse).cachedBackdrop = s.cachedBackdrop := rfl
@[simp] theorem pulse_flags : (s.pulse).flags = s.flags := rfl
@[simp] theorem pulse_fault : (s.pulse).fault = s.fault := rfl
@[simp] theorem pulse_scratch : (s.pulse).scratch = s.scratch := rfl
@[simp] theorem pulse_outputs : (s.pulse).outputs = ⟨s.outputs.rd, true⟩ := rfl
@[simp] theorem pulse_freeFrames : (s.pulse).freeFrames = s.freeFrames := rfl

@[simp] theorem raiseFault_params (e : FaultReason) : (s.raiseFault e).params = s.params := rfl
@[simp] theorem raiseFault_inputs (e : FaultReason) : (s.raiseFault e).inputs = s.inputs := rfl
@[simp] theorem raiseFault_regs (e : FaultReason) : (s.raiseFault e).regs = s.regs := rfl
@[simp] theorem raiseFault_vram (e : FaultReason) : (s.raiseFault e).vram = s.vram := rfl
@[simp] theorem raiseFault_cram (e : FaultReason) : (s.raiseFault e).cram = s.cram := rfl
@[simp] theorem raiseFault_pb (e : FaultReason) : (s.raiseFault e).pb = s.pb := rfl
@[simp] theorem raiseFault_frame (e : FaultReason) : (s.raiseFault e).frame = s.frame := rfl
@[simp] theorem raiseFault_beam (e : FaultReason) : (s.raiseFault e).beam = s.beam := rfl
@[simp] theorem raiseFault_lineCounter (e : FaultReason) : (s.raiseFault e).lineCounter = s.lineCounter := rfl
@[simp] theorem raiseFault_lineStartCycles (e : FaultReason) : (s.raiseFault e).lineStartCycles = s.lineStartCycles := rfl
@[simp] theorem raiseFault_latched (e : FaultReason) : (s.raiseFault e).latched = s.latched := rfl
@[simp] theorem raiseFault_cachedBackdrop (e : FaultReason) : (s.raiseFault e).cachedBackdrop = s.cachedBackdrop := rfl
@[simp] theorem raiseFault_flags (e : FaultReason) : (s.raiseFault e).flags = s.flags := rfl
@[simp] theorem raiseFault_fault (e : FaultReason) : (s.raiseFault e).fault = some e := rfl
@[simp] theorem raiseFault_scratch (e : FaultReason) : (s.raiseFault e).scratch = s.scratch := rfl
@[simp] theorem raiseFault_outputs (e : FaultReason) : (s.raiseFault e).outputs = s.outputs := rfl
@[simp] theorem raiseFault_freeFrames (e : FaultReason) : (s.raiseFault e).freeFrames = s.freeFrames := rfl

@[simp] theorem endFrame_params : (s.endFrame).params = s.params := rfl
@[simp] theorem endFrame_inputs : (s.endFrame).inputs = s.inputs := rfl
@[simp] theorem endFrame_regs : (s.endFrame).regs = s.regs := rfl
@[simp] theorem endFrame_vram : (s.endFrame).vram = s.vram := rfl
@[simp] theorem endFrame_cram : (s.endFrame).cram = s.cram := rfl
@[simp] theorem endFrame_pb : (s.endFrame).pb = s.pb := rfl
@[simp] theorem endFrame_frame : (s.endFrame).frame = ⟨.assembled s.assembled, s.latched.outW, s.latched.outH⟩ := rfl
@[simp] theorem endFrame_beam : (s.endFrame).beam = s.beam := rfl
@[simp] theorem endFrame_lineCounter : (s.endFrame).lineCounter = s.lineCounter := rfl
@[simp] theorem endFrame_lineStartCycles : (s.endFrame).lineStartCycles = s.lineStartCycles := rfl
@[simp] theorem endFrame_latched : (s.endFrame).latched = s.latched := rfl
@[simp] theorem endFrame_cachedBackdrop : (s.endFrame).cachedBackdrop = s.cachedBackdrop := rfl
@[simp] theorem endFrame_flags : (s.endFrame).flags = s.flags := rfl
@[simp] theorem endFrame_fault : (s.endFrame).fault = s.fault := rfl
@[simp] theorem endFrame_scratch : (s.endFrame).scratch = s.scratch := rfl
@[simp] theorem endFrame_outputs : (s.endFrame).outputs = s.outputs := rfl
@[simp] theorem endFrame_freeFrames : (s.endFrame).freeFrames = s.freeFrames := rfl

@[simp] theorem sampleCycle_params : (s.sampleCycle).params = s.params := rfl
@[simp] theorem sampleCycle_inputs : (s.sampleCycle).inputs = s.inputs := rfl
@[simp] theorem sampleCycle_regs : (s.sampleCycle).regs = s.regs := rfl
@[simp] theorem sampleCycle_vram : (s.sampleCycle).vram = s.vram := rfl
@[simp] theorem sampleCycle_cram : (s.sampleCycle).cram = s.cram := rfl
@[simp] theorem sampleCycle_pb : (s.sampleCycle).pb = s.pb := rfl
@[simp] theorem sampleCycle_frame : (s.sampleCycle).frame = s.frame := rfl
@[simp] theorem sampleCycle_beam : (s.sampleCycle).beam = s.beam := rfl
@[simp] theorem sampleCycle_lineCounter : (s.sampleCycle).lineCounter = s.lineCounter := rfl
@[simp] theorem sampleCycle_lineStartCycles : (s.sampleCycle).lineStartCycles = s.inputs.cycle := rfl
@[simp] theorem sampleCycle_latched : (s.sampleCycle).latched = s.latched := rfl
@[simp] theorem sampleCycle_cachedBackdrop : (s.sampleCycle).cachedBackdrop = s.cachedBackdrop := rfl
@[simp] theorem sampleCycle_flags : (s.sampleCycle).flags = s.flags := rfl
@[simp] theorem sampleCycle_fault : (s.sampleCycle).fault = s.fault := rfl
@[simp] theorem sampleCycle_scratch : (s.sampleCycle).scratch = s.scratch := rfl
@[simp] theorem sampleCycle_outputs : (s.sampleCycle).outputs = s.outputs := rfl
@[simp] theorem sampleCycle_freeFrames : (s.sampleCycle).freeFrames = s.freeFrames := rfl

@[simp] theorem countLine_params : (s.countLine).params = s.params := rfl
@[simp] theorem countLine_inputs : (s.countLine).inputs = s.inputs := rfl
@[simp] theorem countLine_regs : (s.countLine).regs = s.regs := rfl
@[simp] theorem countLine_vram : (s.countLine).vram = s.vram := rfl
@[simp] theorem countLine_cram : (s.countLine).cram = s.cram := rfl
@[simp] theorem countLine_pb : (s.countLine).pb = s.pb := rfl
@[simp] theorem countLine_frame : (s.countLine).frame = s.frame := rfl
@[simp] theorem countLine_beam : (s.countLine).beam = ⟨s.beam.region, s.beam.remaining, s.beam.sd + 1⟩ := rfl
@[simp] theorem countLine_lineCounter : (s.countLine).lineCounter = s.lineCounter := rfl
@[simp] theorem countLine_lineStartCycles : (s.countLine).lineStartCycles = s.lineStartCycles := rfl
@[simp] theorem countLine_latched : (s.countLine).latched = s.latched := rfl
@[simp] theorem countLine_cachedBackdrop : (s.countLine).cachedBackdrop = s.cachedBackdrop := rfl
@[simp] theorem countLine_flags : (s.countLine).flags = s.flags := rfl
@[simp] theorem countLine_fault : (s.countLine).fault = s.fault := rfl
@[simp] theorem countLine_scratch : (s.countLine).scratch = s.scratch := rfl
@[simp] theorem countLine_outputs : (s.countLine).outputs = s.outputs := rfl
@[simp] theorem countLine_freeFrames : (s.countLine).freeFrames = s.freeFrames := rfl

@[simp] theorem loadRegion_params : (s.loadRegion).params = s.params := rfl
@[simp] theorem loadRegion_inputs : (s.loadRegion).inputs = s.inputs := rfl
@[simp] theorem loadRegion_regs : (s.loadRegion).regs = s.regs := rfl
@[simp] theorem loadRegion_vram : (s.loadRegion).vram = s.vram := rfl
@[simp] theorem loadRegion_cram : (s.loadRegion).cram = s.cram := rfl
@[simp] theorem loadRegion_pb : (s.loadRegion).pb = s.pb := rfl
@[simp] theorem loadRegion_frame : (s.loadRegion).frame = s.frame := rfl
@[simp] theorem loadRegion_beam : (s.loadRegion).beam = ⟨s.beam.region, s.regionLen s.beam.region, s.beam.sd⟩ := rfl
@[simp] theorem loadRegion_lineCounter : (s.loadRegion).lineCounter = s.lineCounter := rfl
@[simp] theorem loadRegion_lineStartCycles : (s.loadRegion).lineStartCycles = s.lineStartCycles := rfl
@[simp] theorem loadRegion_latched : (s.loadRegion).latched = s.latched := rfl
@[simp] theorem loadRegion_cachedBackdrop : (s.loadRegion).cachedBackdrop = s.cachedBackdrop := rfl
@[simp] theorem loadRegion_flags : (s.loadRegion).flags = s.flags := rfl
@[simp] theorem loadRegion_fault : (s.loadRegion).fault = s.fault := rfl
@[simp] theorem loadRegion_scratch : (s.loadRegion).scratch = s.scratch := rfl
@[simp] theorem loadRegion_outputs : (s.loadRegion).outputs = s.outputs := rfl
@[simp] theorem loadRegion_freeFrames : (s.loadRegion).freeFrames = s.freeFrames := rfl

@[simp] theorem present_params (c : Cycle) (rest : List HostInput) : (s.present c rest).params = s.params := rfl
@[simp] theorem present_inputs (c : Cycle) (rest : List HostInput) : (s.present c rest).inputs = ⟨s.inputs.cfg, c, rest⟩ := rfl
@[simp] theorem present_regs (c : Cycle) (rest : List HostInput) : (s.present c rest).regs = s.regs := rfl
@[simp] theorem present_vram (c : Cycle) (rest : List HostInput) : (s.present c rest).vram = s.vram := rfl
@[simp] theorem present_cram (c : Cycle) (rest : List HostInput) : (s.present c rest).cram = s.cram := rfl
@[simp] theorem present_pb (c : Cycle) (rest : List HostInput) : (s.present c rest).pb = s.pb := rfl
@[simp] theorem present_frame (c : Cycle) (rest : List HostInput) : (s.present c rest).frame = s.frame := rfl
@[simp] theorem present_beam (c : Cycle) (rest : List HostInput) : (s.present c rest).beam = s.beam := rfl
@[simp] theorem present_lineCounter (c : Cycle) (rest : List HostInput) : (s.present c rest).lineCounter = s.lineCounter := rfl
@[simp] theorem present_lineStartCycles (c : Cycle) (rest : List HostInput) : (s.present c rest).lineStartCycles = s.lineStartCycles := rfl
@[simp] theorem present_latched (c : Cycle) (rest : List HostInput) : (s.present c rest).latched = s.latched := rfl
@[simp] theorem present_cachedBackdrop (c : Cycle) (rest : List HostInput) : (s.present c rest).cachedBackdrop = s.cachedBackdrop := rfl
@[simp] theorem present_flags (c : Cycle) (rest : List HostInput) : (s.present c rest).flags = s.flags := rfl
@[simp] theorem present_fault (c : Cycle) (rest : List HostInput) : (s.present c rest).fault = s.fault := rfl
@[simp] theorem present_scratch (c : Cycle) (rest : List HostInput) : (s.present c rest).scratch = s.scratch := rfl
@[simp] theorem present_outputs (c : Cycle) (rest : List HostInput) : (s.present c rest).outputs = s.outputs := rfl
@[simp] theorem present_freeFrames (c : Cycle) (rest : List HostInput) : (s.present c rest).freeFrames = s.freeFrames := rfl

@[simp] theorem configure_params (cfg : HostConfig) (rest : List HostInput) : (s.configure cfg rest).params = s.params := rfl
@[simp] theorem configure_inputs (cfg : HostConfig) (rest : List HostInput) : (s.configure cfg rest).inputs = ⟨cfg, s.inputs.cycle, rest⟩ := rfl
@[simp] theorem configure_regs (cfg : HostConfig) (rest : List HostInput) : (s.configure cfg rest).regs = s.regs := rfl
@[simp] theorem configure_vram (cfg : HostConfig) (rest : List HostInput) : (s.configure cfg rest).vram = s.vram := rfl
@[simp] theorem configure_cram (cfg : HostConfig) (rest : List HostInput) : (s.configure cfg rest).cram = s.cram := rfl
@[simp] theorem configure_pb (cfg : HostConfig) (rest : List HostInput) : (s.configure cfg rest).pb = s.pb := rfl
@[simp] theorem configure_frame (cfg : HostConfig) (rest : List HostInput) : (s.configure cfg rest).frame = s.frame := rfl
@[simp] theorem configure_beam (cfg : HostConfig) (rest : List HostInput) : (s.configure cfg rest).beam = s.beam := rfl
@[simp] theorem configure_lineCounter (cfg : HostConfig) (rest : List HostInput) : (s.configure cfg rest).lineCounter = s.lineCounter := rfl
@[simp] theorem configure_lineStartCycles (cfg : HostConfig) (rest : List HostInput) : (s.configure cfg rest).lineStartCycles = s.lineStartCycles := rfl
@[simp] theorem configure_latched (cfg : HostConfig) (rest : List HostInput) : (s.configure cfg rest).latched = s.latched := rfl
@[simp] theorem configure_cachedBackdrop (cfg : HostConfig) (rest : List HostInput) : (s.configure cfg rest).cachedBackdrop = s.cachedBackdrop := rfl
@[simp] theorem configure_flags (cfg : HostConfig) (rest : List HostInput) : (s.configure cfg rest).flags = s.flags := rfl
@[simp] theorem configure_fault (cfg : HostConfig) (rest : List HostInput) : (s.configure cfg rest).fault = s.fault := rfl
@[simp] theorem configure_scratch (cfg : HostConfig) (rest : List HostInput) : (s.configure cfg rest).scratch = s.scratch := rfl
@[simp] theorem configure_outputs (cfg : HostConfig) (rest : List HostInput) : (s.configure cfg rest).outputs = ⟨0, false⟩ := rfl
@[simp] theorem configure_freeFrames (cfg : HostConfig) (rest : List HostInput) : (s.configure cfg rest).freeFrames = s.freeFrames := rfl

end Sys2Proof.Machine
end

