-- ==== Sys2Proof/Laws/Ops.lean ====
section
/-! SUPPORT. What the shared operations can do, once each: rows and columns, BeginFrame, the region loop, the phases of the
line step, rendering. -/

namespace Sys2Proof

@[simp] theorem Row.fill_get (c : Colour) (x : Nat) (h : x < 256) : (Row.fill c)[x] = c := by
  simp [Row.fill]

@[simp] theorem Row.ofColumns_get (f : Nat → Colour) (x : Nat) (h : x < 256) : (Row.ofColumns f)[x] = f x := by
  simp [Row.ofColumns]

namespace Machine

/-- A pixel of a line just written. -/
theorem pixel_setIfInBounds_same (s : State) (y x : Nat) (row : Row) (hy : y < 240) (hx : x < 256) :
    { s with pb := s.pb.setIfInBounds y row }.pixel y x = row[x] := by
  simp [State.pixel, State.pbRow, hy, hx]

/-- A pixel of any other line. -/
theorem pixel_setIfInBounds_other (s : State) (y z x : Nat) (row : Row) (h : z ≠ y) :
    { s with pb := s.pb.setIfInBounds y row }.pixel z x = s.pixel z x := by
  simp [State.pixel, State.pbRow, Vector.getElem?_setIfInBounds_ne (Ne.symm h)]

@[simp] theorem setBit_getLsbD {n : Nat} (v : BitVec n) (i j : Nat) :
    (setBit v i).getLsbD j = (v.getLsbD j || (decide (j < n) && decide (i = j))) := by
  simp only [setBit, BitVec.getLsbD_or, BitVec.getLsbD_twoPow]
  by_cases h : i = j <;> simp [h]

@[simp] theorem bitsOfColumns_getLsbD (f : Nat → Bool) (x : Nat) (h : x < 256) :
    (bitsOfColumns f).getLsbD x = f x := by
  simp [bitsOfColumns, h]

/-- Everything BeginFrame can do: it latches with the valid system, or faults. -/
theorem beginFrame_cases (s : State) :
    (∃ sys, s.beginFrame = .ok (s.latchFrame sys) ∧
      ((s.inputs.cfg.videoSystem = .ntsc ∧ sys = .ntsc) ∨ (s.inputs.cfg.videoSystem = .pal ∧ sys = .pal))) ∨
    (s.inputs.cfg.videoSystem = .invalid ∧ s.beginFrame = .error .configInvalid) := by
  unfold State.beginFrame
  cases h : s.inputs.cfg.videoSystem <;> simp

/-- BeginFrame's latching leaves everything else alone. -/
theorem latchFrame_frame (s : State) (sys : TvSystem) :
    s.latchFrame sys =
      { s with
        beam := (s.latchFrame sys).beam
        latched := (s.latchFrame sys).latched
        cachedBackdrop := (s.latchFrame sys).cachedBackdrop } := rfl

/-- The region loop does nothing while lines remain. -/
theorem passRegions_remaining (fuel : Nat) (s : State) (h : s.beam.remaining ≠ 0) :
    State.passRegions fuel s = .ok s := by
  cases fuel <;> simp [State.passRegions, h]

/-- A line step inside a region only counts. -/
theorem advanceRegion_inside (s : State) (h : 1 < s.beam.remaining) :
    s.advanceRegion = .ok { s with beam := { s.beam with remaining := s.beam.remaining - 1 } } := by
  unfold State.advanceRegion
  exact passRegions_remaining _ _ (by simp; omega)

/-- What the frame phase can do. -/
theorem framePhase_cases (s : State) :
    (s.beam.sd = frameIntLine s.latched.h ∧
      s.framePhase = { s with flags := { s.flags with framePending := true } }.endFrame) ∨
    (s.beam.sd ≠ frameIntLine s.latched.h ∧ s.framePhase = s) := by
  unfold State.framePhase
  by_cases h : s.beam.sd = frameIntLine s.latched.h <;> simp [h]

/-- The frame phase writes the frame buffer and FramePending only. -/
theorem framePhase_frame (s : State) :
    s.framePhase =
      { s with
        frame := s.framePhase.frame
        flags := { s.flags with framePending := s.framePhase.flags.framePending } } := by
  obtain ⟨-, h⟩ | ⟨-, h⟩ := framePhase_cases s
  · rw [h]; rfl
  · rw [h]

/-- The line interrupt writes LineCounter and LinePending only. -/
theorem lineInterrupt_frame (s : State) :
    s.lineInterrupt =
      { s with
        lineCounter := s.lineInterrupt.lineCounter
        flags := { s.flags with linePending := s.lineInterrupt.flags.linePending } } := by
  unfold State.lineInterrupt
  (repeat' split) <;> rfl

/-- Rendering writes line `y`, CachedBackdrop, the scratch arrays and the sprite flags only. -/
theorem renderLineWith_frame (s : State) (rr : Renderer) (y : Nat) :
    s.renderLineWith rr y =
      { s with
        pb := (s.renderLineWith rr y).pb
        cachedBackdrop := rr.backdrop s
        scratch := (s.renderLineWith rr y).scratch
        flags := (s.renderLineWith rr y).flags } := by
  unfold State.renderLineWith
  by_cases h : s.blk <;> simp [h]

/-- Rendering leaves every other line alone. -/
theorem renderLineWith_pixel_other (s : State) (rr : Renderer) (y z x : Nat) (h : z ≠ y) :
    (s.renderLineWith rr y).pixel z x = s.pixel z x := by
  unfold State.renderLineWith
  by_cases hb : s.blk
  · simp [hb, State.pixel, State.pbRow, Vector.getElem?_setIfInBounds_ne (Ne.symm h)]
  · simp [hb, State.pixel, State.pbRow, Vector.getElem?_setIfInBounds_ne (Ne.symm h)]

/-- A mode vector always selects a renderer. -/
theorem rendererOf_selectRenderer (v : BitVec 6) : (rendererOf (selectRenderer v)).isSome = true := by
  unfold selectRenderer
  by_cases h : v.getLsbD 3
  · simp [h, rendererOf]
  · simp only [h]
    cases v.getLsbD 2 <;> cases v.getLsbD 1 <;> cases v.getLsbD 0 <;> rfl

/-- RenderLine is one of the renderers, on line SD. -/
theorem renderLine_eq (s : State) :
    ∃ rr, rendererOf (selectRenderer s.modeVector) = some rr ∧ s.renderLine = s.renderLineWith rr s.beam.sd := by
  obtain ⟨rr, h⟩ := Option.isSome_iff_exists.mp (rendererOf_selectRenderer s.modeVector)
  exact ⟨rr, h, by simp [State.renderLine, h]⟩

/-- The slot loop of Mode 4 reaches every column once: the pixel p of slot k is found again from its column
(43_background_mode4 R196). -/
theorem slotOf_column (k p fine : Nat) (hk : k < 32) (hp : p < 8) (hf : fine < 8) :
    slotOf fine ((k * 8 + fine + p) % 256) = k ∧ slotPixel fine ((k * 8 + fine + p) % 256) = p := by
  unfold slotOf slotPixel
  omega

/-- Every column belongs to one of the 32 slots (R196). -/
theorem column_of_slot (x fine : Nat) (hx : x < 256) (hf : fine < 8) :
    slotOf fine x < 32 ∧ slotPixel fine x < 8 ∧ (slotOf fine x * 8 + fine + slotPixel fine x) % 256 = x := by
  unfold slotOf slotPixel
  omega

/-- The state after reset is what the reset procedure makes of it (70_reset R350). -/
theorem reset_eq_resetBlock : State.reset = { State.reset with freeFrames := 0 }.resetBlock 0 := rfl

end Machine

end Sys2Proof
end

