-- ==== Sys2Proof/Laws/PerInstr.lean ====
section
/-! SUPPORT. Every instruction's encoding carries the fixed bits of its row of the opcode table (30_encoding R81, R82). -/

namespace Sys2Proof.Laws.EncodingMatchesTable

/-- Under the row's mask, the encoding is the row's value. -/
def Statement (i : Instr) : Prop := (encode i).bits &&& i.fixedBits.1 = i.fixedBits.2

/-- Under the mask of OP, a command word is its OP. -/
theorem commandWord_op (op : BitVec 4) (a : BitVec 14) (d : Byte) :
    (commandWord op a d).toNat &&& 0xF0000000 = op.toNat * 0x10000000 := by
  have h : commandWord op a d &&& 0xF0000000#32 = op.setWidth 32 <<< 28 := by
    ext i hi
    interval_cases i <;> simp [commandWord]
  have h2 := congrArg BitVec.toNat h
  rw [BitVec.toNat_and] at h2
  have := op.isLt
  simpa [Nat.shiftLeft_eq, Nat.mod_eq_of_lt (show op.toNat < 2 ^ 32 by omega),
    Nat.mod_eq_of_lt (show op.toNat * 268435456 < 4294967296 by omega)] using h2

theorem nop : Statement .nop := by unfold Statement; decide
theorem regwr (r : BitVec 4) (v : Byte) : Statement (.regwr r v) := commandWord_op _ _ _
theorem vramwr (a : BitVec 14) (v : Byte) : Statement (.vramwr a v) := commandWord_op _ _ _
theorem vramrd (a : BitVec 14) : Statement (.vramrd a) := commandWord_op _ _ _
theorem cramwr (a : BitVec 14) (v : Byte) : Statement (.cramwr a v) := commandWord_op _ _ _
theorem cramrd (a : BitVec 14) : Statement (.cramrd a) := commandWord_op _ _ _
theorem statrd : Statement .statrd := by unfold Statement; decide
theorem flagclr (m : BitVec 4) : Statement (.flagclr m) := commandWord_op _ _ _
theorem vcntrd : Statement .vcntrd := by unfold Statement; decide
theorem hcntrd : Statement .hcntrd := by unfold Statement; decide
theorem irqrd : Statement .irqrd := by unfold Statement; decide
theorem line : Statement .line := by unfold Statement; decide
theorem framerd (x y : Byte) : Statement (.framerd x y) := commandWord_op _ _ _
theorem framedim : Statement .framedim := by unfold Statement; decide
theorem illegalE : Statement .illegalE := by unfold Statement; decide
theorem illegalF : Statement .illegalF := by unfold Statement; decide
theorem mode4 (hsel : BitVec 2) (m3 m2 m1 : Bool) : Statement (.mode4 hsel m3 m2 m1) := by
  revert hsel m3 m2 m1; unfold Statement; decide
theorem graphics1 (hsel : BitVec 2) : Statement (.graphics1 hsel) := by revert hsel; unfold Statement; decide
theorem graphics2 (hsel : BitVec 2) : Statement (.graphics2 hsel) := by revert hsel; unfold Statement; decide
theorem multicolour (hsel : BitVec 2) : Statement (.multicolour hsel) := by revert hsel; unfold Statement; decide
theorem text (hsel : BitVec 2) : Statement (.text hsel) := by revert hsel; unfold Statement; decide
theorem fallback3 (hsel : BitVec 2) : Statement (.fallback3 hsel) := by revert hsel; unfold Statement; decide
theorem fallback5 (hsel : BitVec 2) : Statement (.fallback5 hsel) := by revert hsel; unfold Statement; decide
theorem fallback6 (hsel : BitVec 2) : Statement (.fallback6 hsel) := by revert hsel; unfold Statement; decide
theorem fallback7 (hsel : BitVec 2) : Statement (.fallback7 hsel) := by revert hsel; unfold Statement; decide

end Sys2Proof.Laws.EncodingMatchesTable
end

