-- ==== Sys2Proof/Tests/Slice0.lean ====
section
/-! SUPPORT. Tests with results from spec/95_test_vectors.md (its vector numbers in the docstrings), refusals of ill-formed
terms, and a witness for the hypotheses of every statement. -/

namespace Sys2Proof.Tests

open Sys2Proof Sys2Proof.Machine

/- One theorem at a time: parallel kernel evaluations would each hold a thread and its stack. -/
set_option Elab.async false

/-! ## Ill-formed terms are refused -/

theorem test_wf_mode4_hsel : (Instr.mode4 3 false false false).wellFormed = false := by decide
theorem test_wf_graphics1_hsel : (Instr.graphics1 3).wellFormed = false := by decide
theorem test_wf_graphics2_hsel : (Instr.graphics2 3).wellFormed = false := by decide
theorem test_wf_multicolour_hsel : (Instr.multicolour 3).wellFormed = false := by decide
theorem test_wf_text_hsel : (Instr.text 3).wellFormed = false := by decide
theorem test_wf_fallbacks_hsel : [Instr.fallback3 3, .fallback5 3, .fallback6 3, .fallback7 3].all (fun i => !i.wellFormed) = true := by
  decide
theorem test_wf_region_active : regionLenOk { Params.default with
    regionLen := { defaultRegionLen with ntsc192 := ⟨191, 25, 3, 3, 13, 27⟩ } } .ntsc .h192 = false := by decide +kernel
theorem test_wf_region_sum : regionLenOk { Params.default with
    regionLen := { defaultRegionLen with ntsc192 := ⟨192, 25, 3, 3, 13, 27⟩ } } .ntsc .h192 = false := by decide +kernel
/-- No region length above 255 sums to a frame here, so this row fails the sum as well: the largest rest is 313 − 192. -/
theorem test_wf_region_255 : regionLenOk { Params.default with
    regionLen := { defaultRegionLen with pal192 := ⟨192, 256, 0, 0, 0, 0⟩ } } .pal .h192 = false := by decide +kernel
theorem test_wf_jump : jumpOk { Params.default with
    vcJump := { defaultVcJump with ntsc192 := 0x0DA } } .ntsc .h192 = false := by decide +kernel
theorem test_wf_cropY : cropYOk { Params.default with cropY := ⟨49, 40, 48⟩ } .h192 = false := by decide +kernel
theorem test_wf_cycles : Params.wellFormed { Params.default with cyclesPerLine := 0 } = false := by decide +kernel
theorem test_wf_vram_order : Params.wellFormed { Params.default with initVram := [(2, 1), (1, 1)] } = false := by decide +kernel
theorem test_wf_vram_size : Params.wellFormed { Params.default with initVram := [(0x4000, 1)] } = false := by decide +kernel
theorem test_wf_cram_zero : Params.wellFormed { Params.default with initCram := [(2, 0)] } = false := by decide +kernel
theorem test_wf_cram_size : Params.wellFormed { Params.default with initCram := [(32, 1)] } = false := by decide +kernel

/-! ## Decoding: words from 30_encoding R81, R82, R84 and vectors E1 to E19, one for every constructor -/

theorem test_decode_nop : decode (.command 0x00000000) = .ok .nop := by decide
theorem test_decode_regwr : decode (.command 0x10001F05) = .ok (.regwr 15 0x05) := by decide
theorem test_decode_vramwr : decode (.command 0x203FFFAA) = .ok (.vramwr 0x3FFF 0xAA) := by decide
theorem test_decode_vramrd : decode (.command 0x30380000) = .ok (.vramrd 0x3800) := by decide
theorem test_decode_cramwr : decode (.command 0x4000213F) = .ok (.cramwr 0x21 0x3F) := by decide
theorem test_decode_cramrd : decode (.command 0x50000100) = .ok (.cramrd 1) := by decide
theorem test_decode_statrd : decode (.command 0x60000000) = .ok .statrd := by decide
theorem test_decode_flagclr : decode (.command 0x7000000F) = .ok (.flagclr 0xF) := by decide
theorem test_decode_vcntrd : decode (.command 0x80000000) = .ok .vcntrd := by decide
theorem test_decode_hcntrd : decode (.command 0x90000000) = .ok .hcntrd := by decide
theorem test_decode_irqrd : decode (.command 0xA0000000) = .ok .irqrd := by decide
theorem test_decode_line : decode (.command 0xB0000000) = .ok .line := by decide
theorem test_decode_framerd : decode (.command 0xC000050A) = .ok (.framerd 10 5) := by decide
theorem test_decode_framedim : decode (.command 0xD0000000) = .ok .framedim := by decide
theorem test_decode_illegal : decode (.command 0xE0000000) = .ok .illegalE ∧ decode (.command 0xF1234567) = .ok .illegalF := by
  decide
theorem test_decode_mode4 : decode (.mode 0b101101) = .ok (.mode4 2 true false true) := by decide
theorem test_decode_graphics1 : decode (.mode 0b000000) = .ok (.graphics1 0) := by decide
theorem test_decode_graphics2 : decode (.mode 0b010010) = .ok (.graphics2 1) := by decide
theorem test_decode_multicolour : decode (.mode 0b100100) = .ok (.multicolour 2) := by decide
theorem test_decode_text : decode (.mode 0b000001) = .ok (.text 0) := by decide
theorem test_decode_fallbacks : decode (.mode 0b000011) = .ok (.fallback3 0) ∧ decode (.mode 0b010101) = .ok (.fallback5 1) ∧
    decode (.mode 0b100110) = .ok (.fallback6 2) ∧ decode (.mode 0b000111) = .ok (.fallback7 0) := by decide
theorem test_decode_hsel3 : decode (.mode 0b110000) = .error .hselThree := by decide
theorem test_decode_table_word : decodeTableWord 32 0xB0000000 = some .line ∧ decodeTableWord 8 0x08 = some (.mode4 0 false false false) ∧
    decodeTableWord 8 0x40 = none := by decide

/-! ## One instruction on a small state -/

/-- The state after reset with memory contents and some registers. -/
def small (vram cram : Memory) (regs : List (BitVec 4 × Byte)) : State :=
  regs.foldl (fun s rv => s.setReg rv.1 rv.2) { State.reset with vram := vram, cram := cram }

/-- The same with the beam at line `y` of ActiveDisplay at 192 lines. -/
def atLine (y : Nat) (s : State) : State := { s with beam := ⟨.activeDisplay, 192 - y, y⟩ }

/-- The instruction answers a next state of which `p` holds. -/
def after (i : Instr) (s : State) (p : State → Bool) : Bool :=
  match exec i s with
  | .next t => p t
  | .fault _ => false
  | .refused _ => false

/-- Colours at some columns of line `y`. -/
def shows (t : State) (y : Nat) (l : List (Nat × Colour)) : Bool := l.all fun xc => t.pixel y xc.1 == xc.2

/-- E1. -/
theorem test_nop : after .nop State.reset (fun t => t == State.reset) = true := by decide +kernel
/-- E3. -/
theorem test_regwr : after (.regwr 15 0x05) State.reset (fun t => t.reg 15 == 0x05) = true := by decide +kernel
/-- E5; the address wraps (20_memory R61). -/
theorem test_vramwr : after (.vramwr 0x3FFF 0xAA) State.reset
    (fun t => t.vramByte 0x3FFF == 0xAA && t.vramByte 0x7FFF == 0xAA && t.vramByte 0 == 0) = true := by decide +kernel
/-- E6. -/
theorem test_vramrd : after (.vramrd 0x3800) (small [(0x3800, 1)] [] []) (fun t => t.outputs.rd == 1) = true := by
  decide +kernel
/-- E7: CRAM_SIZE is 32. -/
theorem test_cramwr : after (.cramwr 0x21 0x3F) State.reset (fun t => t.cram == [(1, 0x3F)]) = true := by decide +kernel
/-- E8 and program P6: 0x21 reads the same byte as 1. -/
theorem test_cramrd : (after (.cramrd 1) (small [] [(1, 0x3F)] []) (fun t => t.outputs.rd == 0x3F) &&
    after (.cramrd 0x21) (small [] [(1, 0x3F)] []) (fun t => t.outputs.rd == 0x3F)) = true := by decide +kernel
/-- SP4: STATRD = 0x1048 with SpriteOverflow and OverflowIndex 8. -/
theorem test_statrd_sp4 : after .statrd { State.reset with flags := ⟨false, false, true, false, 8⟩ }
    (fun t => t.outputs.rd == 0x1048) = true := by decide +kernel
/-- P1 row 8: STATRD = 0x180 with FramePending and LinePending. -/
theorem test_statrd_p1 : after .statrd { State.reset with flags := ⟨true, true, false, false, 0⟩ }
    (fun t => t.outputs.rd == 0x180) = true := by decide +kernel
/-- P1 rows 14, 16: FLAGCLR 1 leaves LinePending. -/
theorem test_flagclr : after (.flagclr 1) { State.reset with flags := ⟨true, true, false, false, 9⟩ }
    (fun t => t.flags == ⟨false, true, false, false, 9⟩) = true := by decide +kernel
/-- E10. -/
theorem test_flagclr_all : after (.flagclr 0xF) { State.reset with flags := ⟨true, true, true, true, 9⟩ }
    (fun t => t.flags == ⟨false, false, false, false, 9⟩) = true := by decide +kernel
/-- CT1: rows 0xDA and 0xDB of NTSC 192. -/
theorem test_vcntrd : (after .vcntrd { State.reset with beam := ⟨.bottomBlanking, 1, 0xDA⟩ } (fun t => t.outputs.rd == 0xDA) &&
    after .vcntrd { State.reset with beam := ⟨.verticalBlanking, 3, 0xDB⟩ } (fun t => t.outputs.rd == 0xD5)) = true := by
  decide +kernel
/-- CT11: d = 198 and d = 228 after a LINE at cycle 1000. -/
theorem test_hcntrd : ([(198, 0xE9), (228, 0), (4, 3)].all fun (dv : Nat × Word) =>
    after .hcntrd { State.reset with lineStartCycles := 1000, inputs := ⟨HostConfig.default, BitVec.ofNat 64 (1000 + dv.1), []⟩ }
      (fun t => t.outputs.rd == dv.2)) = true := by decide +kernel
/-- P1 rows 3, 7: IE0 and FramePending. -/
theorem test_irqrd : (after .irqrd (small [] [] [(1, 0x20)]) (fun t => t.outputs.rd == 0) &&
    after .irqrd { small [] [] [(1, 0x20)] with flags := ⟨true, false, false, false, 0⟩ } (fun t => t.outputs.rd == 1)) = true := by
  decide +kernel
/-- P3 row 4: IE1 and LinePending. -/
theorem test_irqrd_line : after .irqrd { small [] [] [(0, 0x10)] with flags := ⟨false, true, false, false, 0⟩ }
    (fun t => t.outputs.rd == 1) = true := by decide +kernel
/-- P3 row 3: the first LINE from reset fires the line interrupt and reloads 3. -/
theorem test_line_p3 : after .line (small [] [] [(10, 3)])
    (fun t => t.lineCounter == 3 && t.flags.linePending && t.beam == ⟨.activeDisplay, 191, 1⟩ && t.outputs.irqEvaluate) = true := by
  decide +kernel
/-- X5: the 262nd LINE with an invalid video system. -/
theorem test_line_x5 : after .line { State.reset with
      inputs := ⟨{ HostConfig.default with videoSystem := .invalid }, 0, []⟩, beam := ⟨.topBorder, 1, 261⟩ }
    (fun t => t.fault == some .configInvalid && t.beam == ⟨.activeDisplay, 0, 262⟩ && !t.outputs.irqEvaluate) = true := by
  decide +kernel
/-- E15 on a 2 × 1 image; outside it the answer is 0 (E16). -/
theorem test_framerd : (after (.framerd 1 0) { State.reset with frame := ⟨.assembled [[0xFF000001, 0xFF000002]], 2, 1⟩ }
      (fun t => t.outputs.rd == 0xFF000002) &&
    after (.framerd 0 1) { State.reset with frame := ⟨.assembled [[0xFF000001, 0xFF000002]], 2, 1⟩ }
      (fun t => t.outputs.rd == 0)) = true := by decide +kernel
/-- E17. -/
theorem test_framedim : after .framedim State.reset (fun t => t.outputs.rd == 0x010000C0) = true := by decide +kernel
/-- X1: R[7] stays. -/
theorem test_illegal : (after .illegalE (small [] [] [(7, 0x0F)]) (fun t => t.fault == some .illegalCommand && t.reg 7 == 0x0F) &&
    after .illegalF State.reset (fun t => t.fault == some .illegalCommand)) = true := by decide +kernel
/-- X2: a STATRD while Faulted answers 0. -/
theorem test_faulted_refuses : (match step { State.reset with
      fault := some .illegalCommand, flags := ⟨true, true, true, true, 1⟩
      inputs := ⟨HostConfig.default, 0, [.command 0x60000000 0]⟩ } with
    | .next t => t.outputs.rd == 0 && t.flags == ⟨true, true, true, true, 1⟩ && t.inputs.pending == []
    | .fault _ => false
    | .refused _ => false) = true := by decide +kernel
/-- RS2 and RS3. -/
theorem test_reset_rs2_rs3 : (match step { State.reset with
      inputs := ⟨{ HostConfig.default with
        videoSystem := .pal, verticalResolution := .h240, resizingMode := .cropped
        earlyClockDefault := true, joinSpritesDefault := true, zoomDefault := true }, 0, [.reset 7]⟩ } with
    | .next t => t.reg 0 == 0x08 && t.reg 1 == 0x03 && t.beam.remaining == 240 && (t.frame.width, t.frame.height) == (160, 144)
    | .fault _ => false
    | .refused _ => false) = true := by decide +kernel

/-! ## Rendering one line -/

/-- Setup M of 95_test_vectors section 2.4, with another name-table entry, R[0] and R[8], and more CRAM. -/
def setupM (entryHigh r0 r8 : Byte) (cram : Memory) : State :=
  small (if entryHigh = 0 then [(0x20, 0x80), (0x3800, 1), (0x3F00, 0xD0)]
    else [(0x20, 0x80), (0x3800, 1), (0x3801, entryHigh), (0x3F00, 0xD0)]) ((1, 0x3F) :: cram)
    [(0, r0), (1, 0x40), (2, 0xFF), (5, 0x7F), (8, r8)]

/-- M1 and M4. -/
theorem test_mode4_m1_m4 : (after (.mode4 0 false false false) (setupM 0 0x04 0 []) (fun t => shows t 0 [(0, 0xFFFFFFFF), (1, 0xFF000000), (255, 0xFF000000)]) &&
    after (.mode4 0 false false false) (setupM 2 0x04 0 []) (fun t => shows t 0 [(7, 0xFFFFFFFF), (0, 0xFF000000)])) = true := by
  decide +kernel
/-- M3 and M6: left-column blank, and the second palette. -/
theorem test_mode4_m3_m6 : (after (.mode4 0 false false false) (setupM 0 0x24 3 [(16, 0x30)]) (fun t => shows t 0 [(3, 0xFF0000FF), (7, 0xFF0000FF), (8, 0xFF000000)]) &&
    after (.mode4 0 false false false) (setupM 8 0x04 0 [(17, 0x03)]) (fun t => shows t 0 [(0, 0xFFFF0000)])) = true := by
  decide +kernel
/-- M10: line 128 shows name row 16, mirrored to row 0. -/
theorem test_mode4_m10 : after (.mode4 0 false false false) (atLine 128 (setupM 0 0x04 0 []))
    (fun t => shows t 128 [(0, 0xFFFFFFFF)]) = true := by decide +kernel
/-- L1. -/
theorem test_graphics1 : after (.graphics1 0) (small [(8, 0xF0), (0x3800, 1), (0x3FC0, 0xF4)] [] [(1, 0x40), (2, 0x0E), (3, 0xFF), (5, 0x7E)])
    (fun t => shows t 0 [(0, 0xFFFFFFFF), (3, 0xFFFFFFFF), (4, 0xFF5455ED), (255, 0xFF5455ED)]) = true := by decide +kernel
/-- L2. -/
theorem test_graphics2 : after (.graphics2 0) (atLine 70 (small [(0x806, 0x80), (0x2806, 0x9A), (0x3F00, 0xD0)] []
      [(0, 0x02), (1, 0x40), (2, 0x0E), (3, 0xFF), (4, 0x03), (5, 0x7E)]))
    (fun t => shows t 70 [(0, 0xFFFF7978), (1, 0xFFD4C154)]) = true := by decide +kernel
/-- L3. -/
theorem test_multicolour : ([(0, (0xFF21C842, 0xFFFFFFFF)), (4, (0xFF7D76FC, 0xFF000000))].all fun (yc : Nat × Colour × Colour) =>
    after (.multicolour 0) (atLine yc.1 (small [(0, 0x2F), (1, 0x50), (0x3F00, 0xD0)] [] [(1, 0x48), (2, 0x0E), (5, 0x7E)]))
      (fun t => shows t yc.1 [(0, yc.2.1), (4, yc.2.2)])) = true := by decide +kernel
/-- L4. -/
theorem test_text : after (.text 0) (small [(0, 1), (0x808, 0xA8)] [] [(1, 0x50), (4, 1), (7, 0xF4)])
    (fun t => shows t 0 [(0, 0xFF5455ED), (8, 0xFFFFFFFF), (9, 0xFF5455ED), (10, 0xFFFFFFFF), (13, 0xFF5455ED), (248, 0xFF5455ED)]) = true := by
  decide +kernel
/-- L5. -/
theorem test_fallbacks : ([Instr.fallback3 0, .fallback5 0, .fallback6 0, .fallback7 0].all fun i =>
    after i (small [] [] [(1, 0x58), (7, 6)]) (fun t => shows t 0 [(0, 0xFFD4524D), (255, 0xFFD4524D)])) = true := by decide +kernel
/-- L6 and L7: the display off. -/
theorem test_display_off : (after (.graphics1 0) (small [] [] [(7, 6)]) (fun t => shows t 0 [(0, 0xFFD4524D), (255, 0xFFD4524D)]) &&
    after (.mode4 0 false false false) (small [] [(22, 0x0C)] [(0, 4), (7, 6)]) (fun t => shows t 0 [(0, 0xFF00FF00)])) = true := by
  decide +kernel

/-- Setup S of section 2.6 at line 10: modern entries with Y = 9 and pattern 2 at the given columns, then 0xD0. -/
def setupS (xs : List Byte) (r0 r1 : Byte) : State :=
  let n := xs.length
  atLine 10 (small ((0x2040, 0xFF) :: (List.range n).map (fun i => (0x3F00 + i, 9)) ++ (0x3F00 + n, 0xD0) ::
      ((xs.zipIdx.map fun xi => [(0x3F80 + 2 * xi.2, xi.1), (0x3F81 + 2 * xi.2, 2)]).flatten.filter fun c => c.2 ≠ 0))
    [(17, 3)] [(0, r0), (1, r1), (2, 0xFF), (5, 0x7F), (6, 0xFF)])

/-- SP2 and SP3: a collision, and the early clock. -/
theorem test_modern_sp2_sp3 : (after (.mode4 0 false false false) (setupS [20, 24] 0x04 0x40)
      (fun t => shows t 10 [(19, 0xFF000000), (20, 0xFFFF0000), (31, 0xFFFF0000), (32, 0xFF000000)] && t.flags.spriteCollision) &&
    after (.mode4 0 false false false) (setupS [20] 0x0C 0x40)
      (fun t => shows t 10 [(12, 0xFFFF0000), (19, 0xFFFF0000), (20, 0xFF000000)] && !t.flags.spriteCollision)) = true := by
  decide +kernel
/-- SP4: the ninth sprite overflows. -/
theorem test_modern_sp4 : after (.mode4 0 false false false) (setupS [0, 16, 32, 48, 64, 80, 96, 112, 128] 0x04 0x40)
    (fun t => shows t 10 [(112, 0xFFFF0000), (128, 0xFF000000)] && t.flags == ⟨false, false, true, false, 8⟩) = true := by
  decide +kernel

/-- Setup T of section 2.6: legacy entries, and the pattern byte at 0x3800; line 16. -/
def setupT (entries : Memory) (pattern : Byte) (r1 : Byte) : State :=
  atLine 16 (small (entries ++ [(0x3800, pattern)]) [] [(1, r1), (5, 0x36), (6, 0x07)])

/-- LS1 and LS2: the early-clock bit of the flags byte. -/
theorem test_legacy_ls1_ls2 : (after (.graphics1 0)
      (setupT [(0x1B00, 0x0F), (0x1B01, 0x20), (0x1B03, 0x0F), (0x1B04, 0xD0)] 0x81 0x40)
      (fun t => shows t 16 [(31, 0xFF000000), (32, 0xFFFFFFFF), (33, 0xFF000000), (39, 0xFFFFFFFF), (40, 0xFF000000)]) &&
    after (.graphics1 0) (setupT [(0x1B00, 0x0F), (0x1B01, 0x20), (0x1B03, 0x8F), (0x1B04, 0xD0)] 0x81 0x40)
      (fun t => shows t 16 [(24, 0xFFFFFFFF), (31, 0xFFFFFFFF), (32, 0xFF000000)])) = true := by decide +kernel
/-- LS5: colour 0 draws nothing and collides. -/
theorem test_legacy_ls5 : after (.multicolour 0) (setupT [(0x1B00, 0x0F), (0x1B01, 10), (0x1B04, 0x0F), (0x1B05, 14), (0x1B08, 0xD0)] 0xFF 0x48)
    (fun t => shows t 16 [(10, 0xFF000000), (14, 0xFF000000)] && t.flags.spriteCollision) = true := by decide +kernel

/-! ## The frame assembler and the tables -/

/-- F1 to F4. -/
theorem test_blends : blendHalf 0xFFFF0000 0xFF0000FF = 0xFF7F007F ∧ blendThird 0xFF030303 0xFF000000 0xFF000001 = 0xFF010101 ∧
    blendThird 0xFFFFFFFF 0xFFFFFFFF 0xFF000000 = 0xFFAAAAAA ∧ blendHalf 0xFF010101 0xFF000000 = 0xFF000000 := by decide +kernel
/-- F8: margins of the backdrop, and the blended corner pixel. -/
theorem test_scaled_f8 : (let s : State :=
      { State.reset with
        latched := ⟨.ntsc, .h192, 0, .scaled, 160, 144⟩, cachedBackdrop := 0xFF0000FF
        pb := (Vector.replicate 240 (Row.fill 0xFF000000)).set 0 ((Row.fill 0xFF000000).set 0 0xFFFFFFFF) }
    let f := s.endFrame.frame.image
    [f.pixel 0 0, f.pixel 143 0, f.pixel 8 0, f.pixel 9 0, f.pixel 8 1]) =
      [0xFF0000FF, 0xFF0000FF, 0xFF545454, 0xFF000000, 0xFF000000] := by decide +kernel
/-- CT2 to CT6. -/
theorem test_vtable : ([(.ntsc, .h224, 0xEB, 0xE5), (.ntsc, .h240, 0x100, 0x00), (.pal, .h192, 0xF3, 0xBA), (.pal, .h224, 0x103, 0xCA),
      (.pal, .h240, 0x10B, 0xD2)].all fun (q : TvSystem × Height × Nat × Byte) =>
    (vTable Params.default q.1 q.2.1)[q.2.2.1]? == some q.2.2.2) = true := by decide +kernel
/-- CT9. -/
theorem test_htable : ([(195, 0x92), (196, 0x93), (197, 0x93), (198, 0xE9), (199, 0xEA), (227, 0xFF)].all fun (q : Nat × Byte) =>
    (hTable Params.default)[q.1]? == some q.2) = true := by decide +kernel
/-- The assembler text of E2 and E15. -/
theorem test_assembly : (Instr.regwr 1 0x60).assembly = some "REGWR 1, 96" ∧ (Instr.framerd 10 5).assembly = some "FRAMERD 10, 5" := by
  decide +kernel
/-- withFetchWord: the step runs the Text line with the word of TEXT placed. -/
theorem test_fetch_word_text : (match step (State.reset.withFetchWord 8 0x01) with
    | .next t => t.beam.sd == 1 && t.cachedBackdrop == 0xFF000000 && (State.reset.withFetchWord 8 0x01).modeVector == 0x01
    | .fault _ => false
    | .refused _ => false) = true := by decide +kernel
/-! ## Witnesses: a state and operands that meet the hypotheses of each statement, clause by clause -/

/-- The state after reset with other configuration inputs and pending inputs. -/
def given (cfg : HostConfig) (pending : List HostInput) : State := { State.reset with inputs := ⟨cfg, 0, pending⟩ }

/-- The display is on, the beam at a line, after reset. Sprite tables are empty of covering sprites on line 0. -/
def lit (y : Nat) : State := atLine y (small [] [] [(1, 0x40)])

/-- The same with the background layer off. -/
def litLayerOff : State :=
  { lit 0 with inputs := ⟨{ HostConfig.default with backgroundLayerEnabled := false }, 0, []⟩ }

/-- The last line of an NTSC 192 frame, with a video system. -/
def lastLine (v : VideoSystem) : State :=
  { given { HostConfig.default with videoSystem := v } [] with beam := ⟨.topBorder, 1, 261⟩ }

/-- A beam position with a latched height and resizing mode. -/
def latchedAt (h : Height) (m : ResizingMode) (b : Beam) : State :=
  { State.reset with latched := ⟨.ntsc, h, 0, m, (outputDims m h).1, (outputDims m h).2⟩, beam := b }

theorem witness_UnusedBitsAreIgnored : (0x3FC00000 : Word) &&& usedBits (opField 0x30000000) = 0x30000000 &&& usedBits (opField 0x30000000) ∧
    (0x3FC00000 : Word) ≠ 0x30000000 := by decide
theorem witness_DecodeAndEncodeAgree : (Instr.text 2).wellFormed = true ∧ (Instr.framerd 0xFF 0xFF).wellFormed = true ∧
    decode (.mode 0x2F) = .ok (.mode4 2 true true true) := by decide
/-- VFILL and VWRITE over the last address of VRAM (program P6). -/
theorem witness_PseudoInstructionsExpand : 1 < 2 ∧ [(0xAA : Byte), 0xBB][1]? = some 0xBB ∧
    (Pseudo.vfill 0x3FFF 2 0xAA).expand = [.vramwr 0x3FFF 0xAA, .vramwr 0 0xAA] := by decide +kernel
theorem witness_StepRunsThePresentedCommand :
    (given HostConfig.default [.command 0x60000000 5]).inputs.pending = .command 0x60000000 5 :: [] ∧
    decode (.command 0x60000000) = .ok .statrd ∧ (given HostConfig.default [.command 0x60000000 5]).fault = none ∧
    ({ given HostConfig.default [.command 0x60000000 5] with fault := some .configInvalid } : State).fault ≠ none := by decide +kernel
theorem witness_EveryStepCompletes : State.reset.inputs.pending = [] ∧
    (given HostConfig.default [.configure HostConfig.default]).inputs.pending = .configure HostConfig.default :: [] := by decide +kernel
theorem witness_PlacedInstructionRunsNext : hselField 0x2F ≠ 3 ∧ hselField 0x00 ≠ 3 := by decide
theorem witness_LineRendersWithTheDecodedMode : decode (.mode State.reset.modeVector) = .ok (.graphics1 0) ∧
    State.reset.beam.region = .activeDisplay ∧ (lastLine .ntsc).beam.region ≠ .activeDisplay := by decide +kernel
theorem witness_VramwrStoresTheByte : State.reset.vram.wf = true ∧ 0x7FFF % 0x4000 = (0x3FFF#14).toNat ∧ 0x4000 % 0x4000 ≠ (0x3FFF#14).toNat := by
  decide +kernel
theorem witness_CramwrStoresTheByte : State.reset.cram.wf = true ∧ 0x1F % State.reset.cramSize = (0x3FFF#14).toNat % State.reset.cramSize ∧
    0x20 % State.reset.cramSize ≠ (0x3FFF#14).toNat % State.reset.cramSize := by decide +kernel
/-- The last line before the jump and the first after it. -/
theorem witness_VerticalCounterOfTheLine : [0xDA, 0xDB].all (fun sd => jumpOk State.reset.params .ntsc .h192 &&
    decide (({ State.reset with beam := ⟨.bottomBlanking, 1, sd⟩ } : State).beam.sd < State.reset.frameLines)) = true := by decide +kernel
/-- Either side of the ceiling: 197 and 198 elapsed cycles (vector CT9). -/
theorem witness_HorizontalCounterOfTheCycle : 0 < State.reset.params.cyclesPerLine ∧ 3 * 197 / 4 ≤ State.reset.params.hcCeiling ∧
    ¬ 3 * 198 / 4 ≤ State.reset.params.hcCeiling := by decide +kernel
/-- Inside the frame, on its edge, and with an assembled image. -/
theorem witness_FrameReadsAnswerPixelAndSize : State.reset.frame.width < 0x10000 ∧ State.reset.frame.height < 0x10000 ∧
    State.reset.frame.image = .unspecified 0 ∧ (0xFF#8).toNat < State.reset.frame.width ∧ (191#8).toNat < State.reset.frame.height ∧
    State.reset.frame.height ≤ (192#8).toNat ∧
    (let f : FrameBuffer := ⟨.assembled [[1, 2]], 2, 1⟩
     f.image = .assembled [[1, 2]] ∧ [[(1 : Colour), 2]][(0#8).toNat]? = some [1, 2] ∧ [(1 : Colour), 2][(1#8).toNat]? = some 2 ∧
       f.width ≤ (2#8).toNat) := by decide +kernel
theorem witness_ReadsHaveNoSideEffect : ∃ a, Instr.vramrd 3 = .vramrd a := ⟨3, rfl⟩
theorem witness_CommandsWithoutResultAnswerZero : ∃ m, Instr.flagclr 3 = .flagclr m := ⟨3, rfl⟩
theorem witness_IllegalCommandFaults : 0xE0000000 ≤ (0xE0000000#32).toNat ∧ 0xE0000000 ≤ (0xFFFFFFFF#32).toNat ∧
    ¬ 0xE0000000 ≤ (0xDFFFFFFF#32).toNat := by decide
theorem witness_LineStepFrame : (lastLine .ntsc).beam.region ≠ .activeDisplay ∧ 1 ≠ State.reset.beam.sd := by decide +kernel
/-- Inside a region, on its last line, and before the last line of the frame. -/
theorem witness_LineStepCountsOneLine : ([State.reset, atLine 191 State.reset, { State.reset with beam := ⟨.topBorder, 2, 260⟩ }].all
    fun s => s.params.wellFormed && s.beamOk && decide (s.beam.sd + 1 < s.frameLines)) = true := by decide +kernel
theorem witness_LastLineStepBeginsAFrame : ((lastLine .pal).params.wellFormed && (lastLine .pal).beamOk) = true ∧
    (lastLine .pal).beam.sd + 1 = (lastLine .pal).frameLines ∧ (lastLine .pal).inputs.cfg.videoSystem ≠ .invalid := by decide +kernel
theorem witness_InvalidVideoSystemFaults : ((lastLine .invalid).params.wellFormed && (lastLine .invalid).beamOk) = true ∧
    (lastLine .invalid).beam.sd + 1 = (lastLine .invalid).frameLines ∧ (lastLine .invalid).inputs.cfg.videoSystem = .invalid ∧
    (given { HostConfig.default with videoSystem := .invalid } [.reset 9]).inputs.pending = .reset 9 :: [] ∧
    (given { HostConfig.default with videoSystem := .invalid } [.reset 9]).inputs.cfg.videoSystem = .invalid := by decide +kernel
/-- The interrupt line of every height, and the lines around one. -/
theorem witness_FrameInterruptAtItsLine : (latchedAt .h192 .normal ⟨.bottomBorder, 24, 0xC0⟩).beam.sd + 1 = 0xC1 ∧
    (latchedAt .h224 .normal ⟨.bottomBorder, 8, 0xE0⟩).beam.sd + 1 = 0xE1 ∧
    (latchedAt .h240 .normal ⟨.verticalBlanking, 22, 0xF0⟩).beam.sd + 1 = 0xF1 ∧
    (latchedAt .h192 .normal ⟨.activeDisplay, 1, 0xBF⟩).beam.sd + 1 ≠ 0xC1 ∧
    (latchedAt .h192 .normal ⟨.bottomBorder, 23, 0xC1⟩).beam.sd + 1 ≠ 0xC1 := by decide +kernel
/-- The last step of the window, firing and not firing with either test, and the first step outside. -/
theorem witness_LineCountdown : State.reset.inputs.cfg.supportsLineInterrupts = true ∧
    (atLine 191 State.reset).beam.sd + 1 ≤ State.reset.latched.h.toNat ∧
    State.reset.latched.h.toNat < ({ State.reset with beam := ⟨.bottomBorder, 24, 192⟩ } : State).beam.sd + 1 ∧
    (1 : Int) - 1 ≤ 0 ∧ ¬ (2 : Int) - 1 ≤ 0 ∧ (0 : Int) ≤ 0 ∧ ¬ (1 : Int) ≤ 0 := by decide +kernel
theorem witness_NoLineInterruptSupport :
    (given { HostConfig.default with supportsLineInterrupts := false } []).inputs.cfg.supportsLineInterrupts = false := by decide +kernel
theorem witness_NeverBothInterruptFlags : State.reset.flags.framePending = false ∧ State.reset.flags.linePending = false := by decide +kernel
theorem witness_EveryLineStepPulses : State.reset.fault = none := by decide +kernel
theorem witness_AFrameIsLinesPerFrameSteps : (State.reset.params.wellFormed && State.reset.atFrameStart) = true ∧
    State.reset.inputs.cfg.videoSystem ≠ .invalid ∧ State.reset.flags.framePending = false ∧ 261 < State.reset.frameLines ∧
    0 < State.reset.frameLines := by decide +kernel
theorem witness_DisplayOffFillsTheLine : (State.reset.reg 1).getLsbD 6 = false ∧ State.reset.beam.sd < 240 ∧
    (Instr.fallback7 0 = .mode4 0 true true true ∨ Instr.fallback7 0 = .fallback7 0) := by decide +kernel
/-- For Graphics1Line, Graphics2Line, MulticolourLine and TextLine. -/
theorem witness_LegacyLines : ((lit 0).reg 1).getLsbD 6 = true ∧ (lit 0).inputs.cfg.backgroundLayerEnabled = true ∧ (lit 0).beam.sd < 240 ∧
    (lit 0).legacyFound (lit 0).beam.sd = [] := by decide +kernel
/-- The last line of the Pixel Buffer. -/
theorem witness_FallbackFillsTheLine : ((lit 239).reg 1).getLsbD 6 = true ∧ (lit 239).beam.sd < 240 ∧
    (Instr.fallback5 1 = .fallback3 1 ∨ Instr.fallback5 1 = .fallback5 1) := by decide +kernel
theorem witness_Mode4Line : ((lit 0).reg 1).getLsbD 6 = true ∧ (lit 0).inputs.cfg.backgroundLayerEnabled = true ∧ (lit 0).beam.sd < 240 ∧
    (lit 0).modernFound (lit 0).beam.sd = [] ∧ 31 < 32 ∧ 7 < 8 := by decide +kernel
theorem witness_LayerOffKeepsForegroundFlags : (litLayerOff.reg 1).getLsbD 6 = true ∧ litLayerOff.beam.sd < 240 ∧
    litLayerOff.modernFound litLayerOff.beam.sd = [] ∧ litLayerOff.legacyFound litLayerOff.beam.sd = [] ∧
    litLayerOff.inputs.cfg.backgroundLayerEnabled = false ∧
    (Instr.text 0 = .mode4 0 true true true ∨ Instr.text 0 = .text 0) := by decide +kernel
/-- For FirstOpaqueModernSpriteWins and ModernSpriteFlags: line 10 of setup S, with sprites found on it. -/
theorem witness_ModernSprites : ((setupS [20, 24] 0x04 0x40).reg 1).getLsbD 6 = true ∧ (setupS [20, 24] 0x04 0x40).beam.sd < 240 ∧
    (setupS [20, 24] 0x04 0x40).modernShown 10 = [0, 1] ∧ 255 < 256 := by decide +kernel
/-- For FirstColouredLegacySpriteWins and LegacySpriteFlags. -/
theorem witness_LegacySprites : LegacySpriteMode (.graphics2 0) 0 State.graphics2Pixel ∧ ((lit 16).reg 1).getLsbD 6 = true ∧ (lit 16).beam.sd < 240 :=
  ⟨.inr (.inl ⟨rfl, rfl⟩), by decide +kernel⟩
theorem witness_SpriteFlagsOnlyAccumulate : (∃ t, exec .line State.reset = .next t) ∧ ∀ m, Instr.line ≠ .flagclr m :=
  ⟨⟨_, rfl⟩, fun m h => by cases h⟩
/-- Both CRAM formats, both fixed palettes, and the last line of the Pixel Buffer. -/
theorem witness_RenderedLinesAreOpaque : State.reset.params.cramFormat = .sms ∧
    ({ State.reset with params := { Params.default with cramFormat := .gg } } : State).params.cramFormat = .gg ∧
    State.reset.inputs.cfg.fixedPalette = .tms9918 ∧
    (given { HostConfig.default with fixedPalette := .masterSystem } []).inputs.cfg.fixedPalette = .masterSystem ∧
    (∃ v, rendererOf (selectRenderer v) = some rendererText) ∧ (lit 239).beam.sd < 240 :=
  ⟨rfl, rfl, rfl, rfl, ⟨0x01, rfl⟩, by decide +kernel⟩
theorem witness_BlendsAreFloorMeans : [(1 : Colour), 2] ≠ [] ∧ opaqueColour 0xFF123456 = true ∧ 0 < 2 ∧ [(1 : Colour), 2].Perm [2, 1] :=
  ⟨by decide, by decide, by decide, List.Perm.swap 2 1 []⟩
/-- EndFrame in Normal and in Cropped mode, with the last row and column of each. -/
theorem witness_FrameCopies : ([ResizingMode.normal, .cropped].all fun m =>
      decide ((latchedAt .h192 m ⟨.bottomBorder, 24, 0xC0⟩).beam.sd + 1 = frameIntLine .h192) &&
      decide ((latchedAt .h192 m ⟨.bottomBorder, 24, 0xC0⟩).latched.resize = m)) = true ∧
    191 < Height.h192.toNat ∧ 255 < 256 ∧ 143 < 144 ∧ 159 < 160 := by decide +kernel
/-- EndFrame in Scaled mode, at 192 lines and at another height, with the first and last rows of each range. -/
theorem witness_ReferenceDownscale : ([(Height.h192, (⟨.bottomBorder, 24, 0xC0⟩ : Beam)), (.h224, ⟨.bottomBorder, 8, 0xE0⟩),
      (.h240, ⟨.verticalBlanking, 22, 0xF0⟩)].all fun hb =>
      let s := latchedAt hb.1 .scaled hb.2
      s.params.wellFormed && s.beamOk && decide (s.params.hwScale = .reference) && decide (s.latched.resize = .scaled) &&
        decide (s.beam.sd + 1 = frameIntLine s.latched.h)) = true ∧
    31 < 32 ∧ 4 < 5 ∧ 7 < 8 ∧ 136 ≤ 136 ∧ 143 < 144 ∧ 63 < 64 ∧ 71 < 72 := by decide +kernel
/-- The frame-interrupt line in Scaled mode, with a Pixel Buffer of one opaque colour. -/
def scaling (p : Params) (yScroll : Byte) : State :=
  { State.reset with
    params := p, latched := ⟨.ntsc, .h192, yScroll, .scaled, 160, 144⟩, beam := ⟨.bottomBorder, 24, 0xC0⟩
    pb := Vector.replicate 240 (Row.fill 0xFF000000) }

/-- Two blocks with the same downscaler, height, rows and backdrop, but another Y scroll and other parameters. -/
theorem witness_DownscalerContract : ([scaling Params.default 0, scaling { Params.default with cyclesPerLine := 1 } 9].all fun s =>
      s.params.wellFormed && s.beamOk && decide (s.latched.resize = .scaled) && decide (s.beam.sd + 1 = frameIntLine s.latched.h) &&
      decide (s.params.hwScale = .reference) && decide (s.latched.h = .h192) && decide (s.cachedBackdrop = 0xFF000000)) = true ∧
    opaqueColour 0xFF000000 = true ∧
    ∀ (p : Params) (ys : Byte) (y x : Nat), y < 192 → x < 256 → (scaling p ys).pixel y x = 0xFF000000 := by
  refine ⟨by decide +kernel, by decide, ?_⟩
  intro p ys y x hy hx
  have h240 : y < 240 := by omega
  simp [scaling, State.pixel, State.pbRow, Row.fill, h240, hx]
theorem witness_CounterTablesFitTheFrame : 0xDA < linesPerFrame .ntsc ∧ 0xDA ≤ Params.default.vcThreshold.get .ntsc .h192 ∧ 0xDA ≤ 0xFF := by
  decide +kernel
theorem witness_OnlyWritePortsWrite : (∃ t, exec (.regwr 1 1) State.reset = .next t ∧ t.regs ≠ State.reset.regs) ∧
    (∃ t, exec (.vramwr 1 1) State.reset = .next t ∧ t.vram ≠ State.reset.vram) ∧
    (∃ t, exec (.cramwr 1 1) State.reset = .next t ∧ t.cram ≠ State.reset.cram) :=
  ⟨⟨_, rfl, by decide +kernel⟩, ⟨_, rfl, by decide +kernel⟩, ⟨_, rfl, by decide +kernel⟩⟩
theorem witness_OnlyLineMovesTheBeam : (∃ t, exec .nop State.reset = .next t) ∧ Instr.nop ≠ .line ∧
    (∃ t, exec .line (lastLine .pal) = .next t ∧ t.latched ≠ (lastLine .pal).latched) :=
  ⟨⟨_, rfl⟩, by decide, ⟨_, rfl, by decide +kernel⟩⟩
theorem witness_OnlyFlagclrClearsInterrupts : ∃ t, exec (.flagclr 1) { State.reset with flags := ⟨true, true, false, false, 0⟩ } = .next t ∧
    t.flags.framePending = false := ⟨_, rfl, by decide +kernel⟩
theorem witness_SpareRegistersAreReadByNothing : 11 ≤ (11#4).toNat ∧ 11 ≤ (15#4).toNat ∧ (∀ q w, Instr.line ≠ .regwr q w) ∧
    ∃ t, exec .line State.reset = .next t :=
  ⟨by decide, by decide, fun q w h => (by cases h), _, rfl⟩
theorem witness_LegacyModesIgnoreScroll : (Instr.text 0 = .text 0) ∧ ((9#4 : BitVec 4) = 8 ∨ (9#4 : BitVec 4) = 9) ∧
    ∃ t, exec (.text 0) State.reset = .next t := ⟨rfl, by decide, _, rfl⟩
theorem witness_ResetState : (given HostConfig.default [.reset 9]).inputs.pending = .reset 9 :: [] ∧
    (given HostConfig.default [.reset 9]).inputs.cfg.videoSystem ≠ .invalid := by decide +kernel
theorem witness_EveryStepKeepsTheInvariant : State.reset.Inv = true ∧ ∃ t, step State.reset = .next t := ⟨by decide +kernel, _, rfl⟩
theorem witness_SafeRunsNeverFault : (given HostConfig.default [.command 0xB0000000 0, .reset 3]).Safe = true ∧
    ∃ t, step (given HostConfig.default [.command 0xB0000000 0, .reset 3]) = .next t := ⟨by decide +kernel, _, rfl⟩

end Sys2Proof.Tests
end

section
/-! Proofs of the scope family (00_scope): the opacity of rendered lines. First the rules of the colours, then the rows a
renderer makes, then the obligation. -/

namespace Sys2Proof.Machine

/-! ## Packed colours (00_scope R13) -/

/-- With channels of one byte, the packing is a sum of disjoint fields. -/
theorem argb_toNat {r g b : Nat} (hr : r < 256) (hg : g < 256) (hb : b < 256) :
    (argb r g b).toNat = 0xFF000000 + r * 65536 + g * 256 + b := by
  have hfields : 0xFF000000 ||| (r <<< 16) ||| (g <<< 8) ||| b = 0xFF <<< 24 + (r <<< 16 + (g <<< 8 + b)) := by
    rw [Nat.lor_assoc, Nat.lor_assoc, Nat.shiftLeft_add_eq_or_of_lt (by simp; omega) 0xFF,
      Nat.shiftLeft_add_eq_or_of_lt (by simp; omega) r, Nat.shiftLeft_add_eq_or_of_lt (by omega) g]
    rfl
  rw [argb, hfields]
  simp
  omega

theorem redOf_argb {r g b : Nat} (hr : r < 256) (hg : g < 256) (hb : b < 256) : redOf (argb r g b) = r := by
  rw [redOf, argb_toNat hr hg hb]
  omega

theorem greenOf_argb {r g b : Nat} (hr : r < 256) (hg : g < 256) (hb : b < 256) : greenOf (argb r g b) = g := by
  rw [greenOf, argb_toNat hr hg hb]
  omega

theorem blueOf_argb {r g b : Nat} (hr : r < 256) (hg : g < 256) (hb : b < 256) : blueOf (argb r g b) = b := by
  rw [blueOf, argb_toNat hr hg hb]
  omega

/-- The alpha bits are set whatever the channels hold. -/
@[simp] theorem opaqueColour_argb (r g b : Nat) : opaqueColour (argb r g b) = true := by
  have halpha : (argb r g b).extractLsb' 24 8 = 0xFF := by
    have hset : ∀ i < 8, (0xFF000000#32).getLsbD (24 + i) = true ∧ (0xFF#8).getLsbD i = true := by decide
    refine BitVec.eq_of_getLsbD_eq fun i hi => ?_
    simp [argb, hi, hset i hi]
  simp [opaqueColour, halpha]

/-! ## The palettes (30_encoding R94, R95) -/

@[simp] theorem opaqueColour_smsColour (b : Nat) : opaqueColour (smsColour b) = true := opaqueColour_argb _ _ _

@[simp] theorem opaqueColour_ggColour (w : Nat) : opaqueColour (ggColour w) = true := opaqueColour_argb _ _ _

theorem cramColour_sms (s : State) (i : Nat) (h : s.params.cramFormat = .sms) :
    s.cramColour i = smsColour (s.cram.read (i % 32)).toNat := by
  simp [State.cramColour, State.cramByte, State.cramSize, CramFormat.size, h]

theorem cramColour_gg (s : State) (i : Nat) (h : s.params.cramFormat = .gg) :
    s.cramColour i =
      ggColour ((s.cram.read (2 * (i % 32))).toNat + 256 * (s.cram.read (2 * (i % 32) + 1)).toNat) := by
  have hlow : 2 * (i % 32) % 64 = 2 * (i % 32) := by omega
  have hhigh : (2 * (i % 32) + 1) % 64 = 2 * (i % 32) + 1 := by omega
  simp only [State.cramColour, State.cramByte, State.cramSize, CramFormat.size, h, hlow, hhigh]

theorem smsColour_channels (b : Nat) :
    redOf (smsColour b) = b % 4 * 85 ∧ greenOf (smsColour b) = b / 4 % 4 * 85 ∧ blueOf (smsColour b) = b / 16 % 4 * 85 := by
  have hr : b % 4 * 85 < 256 := by omega
  have hg : b / 4 % 4 * 85 < 256 := by omega
  have hb : b / 16 % 4 * 85 < 256 := by omega
  exact ⟨redOf_argb hr hg hb, greenOf_argb hr hg hb, blueOf_argb hr hg hb⟩

theorem ggColour_channels (w : Nat) :
    redOf (ggColour w) = w % 16 * 17 ∧ greenOf (ggColour w) = w / 16 % 16 * 17 ∧ blueOf (ggColour w) = w / 256 % 16 * 17 := by
  have hr : w % 16 * 17 < 256 := by omega
  have hg : w / 16 % 16 * 17 < 256 := by omega
  have hb : w / 256 % 16 * 17 < 256 := by omega
  exact ⟨redOf_argb hr hg hb, greenOf_argb hr hg hb, blueOf_argb hr hg hb⟩

@[simp] theorem opaqueColour_cramColour (s : State) (i : Nat) : opaqueColour (s.cramColour i) = true := by
  cases h : s.params.cramFormat with
  | sms => rw [cramColour_sms s i h, opaqueColour_smsColour]
  | gg => rw [cramColour_gg s i h, opaqueColour_ggColour]

theorem fixedColour_masterSystem (s : State) (n : Nat) (h : s.inputs.cfg.fixedPalette = .masterSystem) :
    s.fixedColour n = smsColour (masterSystemCodes[n % 16]?.getD 0) := by
  simp [State.fixedColour, h]

theorem fixedColour_tms9918 (s : State) (n : Nat) (h : s.inputs.cfg.fixedPalette = .tms9918) :
    s.fixedColour n = tms9918Colours[n % 16]?.getD 0xFF000000 := by
  simp [State.fixedColour, h]

theorem opaqueColour_tms9918Colours :
    ∀ n < 16, opaqueColour (tms9918Colours[n]?.getD 0xFF000000) = true := by decide

@[simp] theorem opaqueColour_fixedColour (s : State) (n : Nat) : opaqueColour (s.fixedColour n) = true := by
  cases h : s.inputs.cfg.fixedPalette with
  | masterSystem => rw [fixedColour_masterSystem s n h, opaqueColour_smsColour]
  | tms9918 =>
    rw [fixedColour_tms9918 s n h]
    exact opaqueColour_tms9918Colours _ (Nat.mod_lt n (by decide))

theorem opaqueColour_nibbleColour (s : State) (n : Nat) {bd : Colour} (hbd : opaqueColour bd = true) :
    opaqueColour (s.nibbleColour n bd) = true := by
  unfold State.nibbleColour
  split
  · exact hbd
  · exact opaqueColour_fixedColour s n

/-! ## Sprite passes: what every plotted pixel keeps, the pass keeps -/

/-- What the plotted pixels and the overflow mark of the modern format keep, the whole pass keeps (45_sprites R259). -/
theorem modernSprites_keeps {P : LineWork → Prop} (s : State) (y : Nat) (w : LineWork)
    (hplot : ∀ ci x w, P w → P (s.plotModern ci x w)) (hover : ∀ i w, P w → P { w with overflow := some i })
    (hw : P w) : P (s.modernSprites y w) := by
  have hdraw (i r : Nat) (w : LineWork) (hw : P w) : P (s.drawModern i r w) :=
    List.foldlRecOn _ _ hw fun w hw q _ => hplot _ _ w hw
  have hwalk (entries : List Nat) : ∀ count w, P w → P (s.modernWalk y entries count w) := by
    induction entries with
    | nil => exact fun _ _ hw => hw
    | cons i rest ih =>
      intro count w hw
      rw [State.modernWalk]
      split
      · exact hw
      · split
        · exact ih _ _ hw
        · split
          · exact hover i w hw
          · exact ih _ _ (hdraw _ _ _ hw)
  exact hwalk _ _ _ hw

/-- What the plotted pixels and the overflow mark of the legacy format keep, the whole pass keeps (45_sprites R272). -/
theorem legacySprites_keeps {P : LineWork → Prop} (s : State) (y : Nat) (w : LineWork)
    (hplot : ∀ colour x w, P w → P (s.plotLegacy colour x w)) (hover : ∀ i w, P w → P { w with overflow := some i })
    (hw : P w) : P (s.legacySprites y w) := by
  have hdraw (i r : Nat) (w : LineWork) (hw : P w) : P (s.drawLegacy i r w) := by
    refine List.foldlRecOn _ _ hw fun w hw q _ => ?_
    split
    · exact hplot _ _ w hw
    · exact hw
  have hwalk (entries : List Nat) : ∀ count w, P w → P (s.legacyWalk y entries count w) := by
    induction entries with
    | nil => exact fun _ _ hw => hw
    | cons i rest ih =>
      intro count w hw
      rw [State.legacyWalk]
      split
      · exact hw
      · split
        · exact ih _ _ hw
        · split
          · exact hover i w hw
          · exact ih _ _ (hdraw _ _ _ hw)
  exact hwalk _ _ _ hw

/-! ## Opaque rows -/

/-- Every pixel of the line is fully opaque (00_scope R13). -/
def RowOpaque (row : Row) : Prop := ∀ (x : Nat) (h : x < 256), opaqueColour row[x] = true

theorem RowOpaque.fill {c : Colour} (hc : opaqueColour c = true) : RowOpaque (Row.fill c) := fun x h => by
  rw [Row.fill_get c x h, hc]

theorem RowOpaque.ofColumns {f : Nat → Colour} (hf : ∀ x, opaqueColour (f x) = true) : RowOpaque (Row.ofColumns f) :=
  fun x h => by rw [Row.ofColumns_get f x h, hf]

theorem RowOpaque.setIfInBounds {row : Row} (hrow : RowOpaque row) (i : Nat) {c : Colour} (hc : opaqueColour c = true) :
    RowOpaque (row.setIfInBounds i c) := fun x h => by
  rw [Vector.getElem_setIfInBounds]
  split
  · exact hc
  · exact hrow x h

theorem RowOpaque.plotModern (s : State) (ci : Nat) (x : Int) (w : LineWork) (hw : RowOpaque w.row) :
    RowOpaque (s.plotModern ci x w).row := by
  unfold State.plotModern
  split
  · exact hw
  · dsimp only
    split
    · exact hw
    · exact hw.setIfInBounds _ (opaqueColour_cramColour s _)

theorem RowOpaque.plotLegacy (s : State) (colour : Nat) (x : Int) (w : LineWork) (hw : RowOpaque w.row) :
    RowOpaque (s.plotLegacy colour x w).row := by
  unfold State.plotLegacy
  dsimp only
  split
  · exact hw
  · exact hw.setIfInBounds _ (opaqueColour_fixedColour s _)

theorem RowOpaque.modernSprites (s : State) (y : Nat) (w : LineWork) (hw : RowOpaque w.row) :
    RowOpaque (s.modernSprites y w).row :=
  modernSprites_keeps (P := fun w => RowOpaque w.row) s y w (RowOpaque.plotModern s) (fun _ _ h => h) hw

theorem RowOpaque.legacySprites (s : State) (y : Nat) (w : LineWork) (hw : RowOpaque w.row) :
    RowOpaque (s.legacySprites y w).row :=
  legacySprites_keeps (P := fun w => RowOpaque w.row) s y w (RowOpaque.plotLegacy s) (fun _ _ h => h) hw

/-! ## Opaque renderers -/

/-- Each of a renderer's three parts makes or keeps opaque colours only. -/
structure Renderer.Opaque (rr : Renderer) : Prop where
  backdrop   : ∀ s, opaqueColour (rr.backdrop s) = true
  background : ∀ s y bd, opaqueColour bd = true → RowOpaque (rr.background s y bd).1
  sprites    : ∀ s y w, RowOpaque w.row → RowOpaque (rr.sprites s y w).row

theorem opaqueColour_mode4Pixel (s : State) (y : Nat) {bd : Colour} (hbd : opaqueColour bd = true) (x : Nat) :
    opaqueColour (s.mode4Pixel y bd x) = true := by
  unfold State.mode4Pixel
  split
  · exact hbd
  · exact opaqueColour_cramColour s _

theorem opaqueColour_textPixel (s : State) (y : Nat) {bd : Colour} (hbd : opaqueColour bd = true) (x : Nat) :
    opaqueColour (s.textPixel y bd x) = true := by
  unfold State.textPixel
  split
  · exact hbd
  · exact opaqueColour_nibbleColour s _ hbd

theorem Renderer.Opaque.mode4 : rendererMode4.Opaque where
  backdrop s := opaqueColour_cramColour s _
  background s y _ hbd := .ofColumns (opaqueColour_mode4Pixel s y hbd)
  sprites := RowOpaque.modernSprites

/-- The renderers with the legacy backdrop and a background by columns need an opaque pixel and a sprite pass that keeps
opaque rows. -/
theorem Renderer.Opaque.legacy {pixel : State → Nat → Colour → Nat → Colour} {sprites : State → Nat → LineWork → LineWork}
    (hpixel : ∀ s y bd, opaqueColour bd = true → ∀ x, opaqueColour (pixel s y bd x) = true)
    (hsprites : ∀ s y w, RowOpaque w.row → RowOpaque (sprites s y w).row) :
    Renderer.Opaque ⟨State.legacyBackdrop, legacyBackground pixel, sprites⟩ where
  backdrop s := opaqueColour_fixedColour s _
  background s y bd hbd := .ofColumns (hpixel s y bd hbd)
  sprites := hsprites

theorem Renderer.Opaque.graphics1 : rendererGraphics1.Opaque :=
  .legacy (fun s _ _ hbd _ => opaqueColour_nibbleColour s _ hbd) RowOpaque.legacySprites

theorem Renderer.Opaque.graphics2 : rendererGraphics2.Opaque :=
  .legacy (fun s _ _ hbd _ => opaqueColour_nibbleColour s _ hbd) RowOpaque.legacySprites

theorem Renderer.Opaque.multicolour : rendererMulticolour.Opaque :=
  .legacy (fun s _ _ hbd _ => opaqueColour_nibbleColour s _ hbd) RowOpaque.legacySprites

theorem Renderer.Opaque.text : rendererText.Opaque :=
  .legacy (fun s y _ hbd => opaqueColour_textPixel s y hbd) fun _ _ _ hw => hw

theorem Renderer.Opaque.fallback : rendererFallback.Opaque where
  backdrop s := opaqueColour_fixedColour s _
  background _ _ _ hbd := .fill hbd
  sprites _ _ _ hw := hw

/-- The renderers an instruction can select (30_encoding R82). -/
theorem rendererOf_cases {i : Instr} {rr : Renderer} (h : rendererOf i = some rr) :
    rr = rendererMode4 ∨ rr = rendererGraphics1 ∨ rr = rendererGraphics2 ∨ rr = rendererMulticolour ∨
      rr = rendererText ∨ rr = rendererFallback := by
  cases i <;> cases h <;> simp

theorem Renderer.Opaque.of_rendererOf {i : Instr} {rr : Renderer} (h : rendererOf i = some rr) : rr.Opaque := by
  obtain rfl | rfl | rfl | rfl | rfl | rfl := rendererOf_cases h
  · exact .mode4
  · exact .graphics1
  · exact .graphics2
  · exact .multicolour
  · exact .text
  · exact .fallback

theorem Renderer.Opaque.lineWork {rr : Renderer} (hrr : rr.Opaque) (s : State) (y : Nat) {bd : Colour}
    (hbd : opaqueColour bd = true) : RowOpaque (s.lineWork rr y bd).row := by
  refine hrr.sprites s y _ ?_
  dsimp only
  split
  · exact hrr.background s y bd hbd
  · exact .fill hbd

/-- The line just rendered: what the line work leaves, or the backdrop with the display off (42_beam R167). -/
theorem renderLineWith_pixel_same (s : State) (rr : Renderer) {y x : Nat} (hy : y < 240) (hx : x < 256) :
    (s.renderLineWith rr y).pixel y x =
      if s.blk then (s.lineWork rr y (rr.backdrop s)).row[x] else rr.backdrop s := by
  unfold State.renderLineWith
  by_cases h : s.blk
  · simp only [h, if_true]
    exact pixel_setIfInBounds_same s y x (s.lineWork rr y (rr.backdrop s)).row hy hx
  · simp only [h]
    exact (pixel_setIfInBounds_same s y x (Row.fill (rr.backdrop s)) hy hx).trans (Row.fill_get _ x hx)

/-- Rendering stores an opaque CachedBackdrop and an opaque line, with the display on or off. -/
theorem Renderer.Opaque.renderLineWith {rr : Renderer} (hrr : rr.Opaque) (s : State) {y : Nat} (hy : y < 240) :
    opaqueColour (s.renderLineWith rr y).cachedBackdrop = true ∧
    ∀ x, x < 256 → opaqueColour ((s.renderLineWith rr y).pixel y x) = true := by
  have hbd := hrr.backdrop s
  refine ⟨by rw [renderLineWith_frame]; exact hbd, fun x hx => ?_⟩
  rw [renderLineWith_pixel_same s rr hy hx]
  split
  · exact hrr.lineWork s y hbd x hx
  · exact hbd

/-! ## The obligation -/

/-- Settles O46: the channels of the CRAM colours and the fixed palettes by their packing, and the opacity of rendered lines
because every part of every renderer makes opaque colours only. -/
theorem renderedLinesAreOpaque : Obligations.RenderedLinesAreOpaque := by
  refine ⟨fun s i h => ?_, fun s i h => ?_, fun s h => ?_, fun s h => ?_, fun s rr ⟨_, hrr⟩ hsd => ?_⟩
  · obtain ⟨hred, hgreen, hblue⟩ := smsColour_channels (s.cram.read (i % 32)).toNat
    rw [← cramColour_sms s i h] at hred hgreen hblue
    exact ⟨hred, hgreen, hblue, opaqueColour_cramColour s i⟩
  · have hlow := (s.cram.read (2 * (i % 32))).isLt
    obtain ⟨hred, hgreen, hblue⟩ := ggColour_channels
      ((s.cram.read (2 * (i % 32))).toNat + 256 * (s.cram.read (2 * (i % 32) + 1)).toNat)
    rw [← cramColour_gg s i h] at hred hgreen hblue
    exact ⟨by omega, by omega, by omega, opaqueColour_cramColour s i⟩
  · rw [funext fun n => fixedColour_masterSystem s n h]
    decide
  · rw [funext fun n => fixedColour_tms9918 s n h]
    decide
  · exact (Renderer.Opaque.of_rendererOf hrr).renderLineWith s hsd

end Sys2Proof.Machine
end

section
/-! Proofs of the state family (10_state). First what an instruction can do and what the line step leaves alone, then what
the renderers read of the state and that nothing reads a spare register, then the obligations. -/

namespace Sys2Proof.Machine

/-! ## What an instruction can do -/

/-- The result word of NOP and of the eight reads, which change the outputs only (20_memory R69, 40_host_ops R124). -/
def State.readWord (s : State) : Instr → Option Word
  | .nop => some 0
  | .vramrd a => some ((s.vramByte a.toNat).setWidth 32)
  | .cramrd a => some ((s.cramByte a.toNat).setWidth 32)
  | .statrd => some s.flags.statusWord
  | .vcntrd => some (s.vCount.setWidth 32)
  | .hcntrd => some (s.hCount.setWidth 32)
  | .irqrd => some (flagBit s.irq 0)
  | .framerd x y => some (s.framePixel x.toNat y.toNat)
  | .framedim => some (BitVec.ofNat 32 ((s.frame.width <<< 16) ||| s.frame.height))
  | .regwr _ _ => none
  | .vramwr _ _ => none
  | .cramwr _ _ => none
  | .flagclr _ => none
  | .line => none
  | .illegalE => none
  | .illegalF => none
  | .mode4 _ _ _ _ => none
  | .graphics1 _ => none
  | .graphics2 _ => none
  | .multicolour _ => none
  | .text _ => none
  | .fallback3 _ => none
  | .fallback5 _ => none
  | .fallback6 _ => none
  | .fallback7 _ => none

/-- What an instruction does to the state, by kind: write through one of the three ports, clear flags, take the fault
IllegalCommand, run a line step, render line SD, or only answer. -/
inductive Effect (s : State) : Instr → State → Prop
  | regwr (r : BitVec 4) (v : Byte) : Effect s (.regwr r v) ((s.setReg r v).answer 0)
  | vramwr (a : BitVec 14) (v : Byte) : Effect s (.vramwr a v) ((s.setVram a.toNat v).answer 0)
  | cramwr (a : BitVec 14) (v : Byte) : Effect s (.cramwr a v) ((s.setCram a.toNat v).answer 0)
  | flagclr (m : BitVec 4) : Effect s (.flagclr m) ({ s with flags := s.flags.clear m }.answer 0)
  | illegalE : Effect s .illegalE ((s.raiseFault .illegalCommand).answer 0)
  | illegalF : Effect s .illegalF ((s.raiseFault .illegalCommand).answer 0)
  | line : Effect s .line s.lineStep
  | render {i : Instr} {rr : Renderer} (h : rendererOf i = some rr) : Effect s i (s.renderLineWith rr s.beam.sd)
  | read {i : Instr} {rd : Word} (h : s.readWord i = some rd) : Effect s i (s.answer rd)

theorem effect_of_exec {s t : State} {i : Instr} (h : exec i s = .next t) : Effect s i t := by
  cases i <;> obtain rfl := Host.Outcome.next.inj h
  case regwr r v => exact .regwr r v
  case vramwr a v => exact .vramwr a v
  case cramwr a v => exact .cramwr a v
  case flagclr m => exact .flagclr m
  case illegalE => exact .illegalE
  case illegalF => exact .illegalF
  case line => exact .line
  case mode4 | graphics1 | graphics2 | multicolour | text | fallback3 | fallback5 | fallback6 | fallback7 =>
    exact .render rfl
  case nop | vramrd | cramrd | statrd | vcntrd | hcntrd | irqrd | framerd | framedim =>
    exact .read rfl

theorem exec_of_effect {s t : State} {i : Instr} (h : Effect s i t) : exec i s = .next t := by
  cases h with
  | regwr | vramwr | cramwr | flagclr | illegalE | illegalF | line => rfl
  | render h => cases i <;> cases h <;> rfl
  | read h => cases i <;> cases h <;> rfl

/-- Everything an instruction can do. -/
theorem exec_eq_next_iff {s t : State} {i : Instr} : exec i s = .next t ↔ Effect s i t :=
  ⟨effect_of_exec, exec_of_effect⟩

/-! ## The region advance (42_beam R173) -/

/-- The state that a move of the beam leaves, whether a fault stopped it or not. -/
def endState : Except State State → State
  | .error f => f
  | .ok t => t

/-- The beam in the region that follows, before anything else is done there. -/
def State.toNextRegion (s : State) : State := { s with beam := { s.beam with region := s.beam.region.next } }

theorem enterNext_beginFrame {s : State} (h : s.beam.region.next = .activeDisplay) :
    s.enterNext =
      match s.toNextRegion.beginFrame with
      | .error r => .error (s.toNextRegion.raiseFault r)
      | .ok t => .ok t.loadRegion := if_pos h

theorem enterNext_loadRegion {s : State} (h : s.beam.region.next ≠ .activeDisplay) :
    s.enterNext = .ok s.toNextRegion.loadRegion := if_neg h

/-- Everything entering the next region can do: begin a frame, fault, or only load the region. -/
theorem enterNext_cases (s : State) :
    (s.beam.region.next = .activeDisplay ∧ ∃ sys, s.toNextRegion.beginFrame = .ok (s.toNextRegion.latchFrame sys) ∧
      s.enterNext = .ok (s.toNextRegion.latchFrame sys).loadRegion) ∨
    (s.beam.region.next = .activeDisplay ∧ s.inputs.cfg.videoSystem = .invalid ∧
      s.enterNext = .error (s.toNextRegion.raiseFault .configInvalid)) ∨
    (s.beam.region.next ≠ .activeDisplay ∧ s.enterNext = .ok s.toNextRegion.loadRegion) := by
  by_cases hr : s.beam.region.next = .activeDisplay
  · obtain ⟨sys, hb, -⟩ | ⟨hv, hb⟩ := beginFrame_cases s.toNextRegion
    · exact .inl ⟨hr, sys, hb, by rw [enterNext_beginFrame hr, hb]⟩
    · exact .inr <| .inl ⟨hr, hv, by rw [enterNext_beginFrame hr, hb]⟩
  · exact .inr <| .inr ⟨hr, enterNext_loadRegion hr⟩

section
variable {P : State → Prop}
  (hbeam : ∀ u region remaining, P u → P { u with beam := ⟨region, remaining, u.beam.sd⟩ })
  (hbegin : ∀ u sys, P u → P (u.latchFrame sys)) (hfault : ∀ u r, P u → P (u.raiseFault r))
include hbeam hbegin hfault

theorem enterNext_keeps {s : State} (hs : P s) : P (endState s.enterNext) := by
  have hnext := hbeam s s.beam.region.next s.beam.remaining hs
  obtain ⟨-, sys, -, h⟩ | ⟨-, -, h⟩ | ⟨-, h⟩ := enterNext_cases s
  · rw [h]; exact hbeam _ _ _ (hbegin _ sys hnext)
  · rw [h]; exact hfault _ _ hnext
  · rw [h]; exact hbeam _ _ _ hnext

theorem passRegions_keeps (fuel : Nat) {s : State} (hs : P s) : P (endState (State.passRegions fuel s)) := by
  induction fuel generalizing s with
  | zero => exact hs
  | succ fuel ih =>
    have henter := enterNext_keeps hbeam hbegin hfault hs
    rw [State.passRegions]
    split
    · cases hnext : s.enterNext with rw [hnext] at henter
      | error f => exact henter
      | ok t => exact ih henter
    · exact hs

/-- What moving the beam without counting a line, BeginFrame's latching and a fault keep, the region advance keeps. -/
theorem advanceRegion_keeps {s : State} (hs : P s) : P (endState s.advanceRegion) :=
  passRegions_keeps hbeam hbegin hfault 6 (hbeam _ _ _ hs)

end

/-- The region advance writes the beam, the latched values, CachedBackdrop and the fault only. -/
theorem advanceRegion_frame (s : State) :
    ∃ beam latched bd fault, endState s.advanceRegion =
      { s with beam := beam, latched := latched, cachedBackdrop := bd, fault := fault } := by
  refine advanceRegion_keeps
    (P := fun u => ∃ beam latched bd fault,
      u = { s with beam := beam, latched := latched, cachedBackdrop := bd, fault := fault }) ?_ ?_ ?_ ⟨_, _, _, _, rfl⟩
  · rintro _ region remaining ⟨beam, latched, bd, fault, rfl⟩
    exact ⟨_, _, _, _, rfl⟩
  · rintro _ sys ⟨beam, latched, bd, fault, rfl⟩
    exact ⟨_, _, _, _, rfl⟩
  · rintro _ r ⟨beam, latched, bd, fault, rfl⟩
    exact ⟨_, _, _, _, rfl⟩

/-! ## The line step (42_beam R165) -/

theorem renderPhase_frame (s : State) :
    s.renderPhase =
      { s with
        pb := s.renderPhase.pb
        cachedBackdrop := s.renderPhase.cachedBackdrop
        scratch := s.renderPhase.scratch
        flags := s.renderPhase.flags } := by
  unfold State.renderPhase
  split
  · obtain ⟨rr, -, h⟩ := renderLine_eq s
    rw [h, renderLineWith_frame]
  · rfl

theorem linePhases_frame (s : State) :
    s.linePhases =
      { s with
        pb := s.linePhases.pb
        frame := s.linePhases.frame
        beam := { s.beam with sd := s.beam.sd + 1 }
        lineCounter := s.linePhases.lineCounter
        lineStartCycles := s.inputs.cycle
        cachedBackdrop := s.linePhases.cachedBackdrop
        flags := s.linePhases.flags
        scratch := s.linePhases.scratch } := by
  unfold State.linePhases
  rw [lineInterrupt_frame, framePhase_frame, renderPhase_frame]
  rfl

/-- The line step is its phases and the region advance, but for the outputs. -/
theorem lineStep_eq_endState (s : State) :
    ∃ o, s.lineStep = { endState (s.answer 0).linePhases.advanceRegion with outputs := o } := by
  unfold State.lineStep
  cases (s.answer 0).linePhases.advanceRegion with
  | error f => exact ⟨f.outputs, rfl⟩
  | ok t => exact ⟨t.pulse.outputs, rfl⟩

theorem lineStep_frame (s : State) :
    s.lineStep =
      { s with
        pb := s.lineStep.pb
        frame := s.lineStep.frame
        beam := s.lineStep.beam
        lineCounter := s.lineStep.lineCounter
        lineStartCycles := s.inputs.cycle
        latched := s.lineStep.latched
        cachedBackdrop := s.lineStep.cachedBackdrop
        flags := s.lineStep.flags
        fault := s.lineStep.fault
        scratch := s.lineStep.scratch
        outputs := s.lineStep.outputs } := by
  obtain ⟨o, ho⟩ := lineStep_eq_endState s
  obtain ⟨beam, latched, bd, fault, ha⟩ := advanceRegion_frame (s.answer 0).linePhases
  rw [ho, ha, linePhases_frame]
  rfl

/-- The latched values change only in a line step that begins a frame, and such a line step ends on line 0 (42_beam R161). -/
theorem lineStep_latched (s : State) : s.lineStep.latched = s.latched ∨ s.lineStep.beam.sd = 0 := by
  obtain ⟨o, ho⟩ := lineStep_eq_endState s
  rw [ho]
  refine advanceRegion_keeps (P := fun u => u.latched = s.latched ∨ u.beam.sd = 0)
    (fun _ _ _ hu => hu) (fun _ _ _ => .inr rfl) (fun _ _ hu => hu) (.inl ?_)
  rw [linePhases_frame]
  rfl

/-! ## What the renderers read -/

/-- The two states look alike to every renderer but Mode 4: R[1] to R[7], VRAM, and the parameters and configuration inputs
of the legacy formats; and they have the same Pixel Buffer and flags to render into. -/
structure LegacyAlike (s u : State) : Prop where
  reg     : ∀ i : Fin 16, 1 ≤ i.val → i.val ≤ 7 → u.reg i = s.reg i
  vram    : u.vram = s.vram
  params  : u.params = s.params
  palette : u.inputs.cfg.fixedPalette = s.inputs.cfg.fixedPalette
  cap     : u.inputs.cfg.legacySpriteCap = s.inputs.cfg.legacySpriteCap
  layer   : u.inputs.cfg.backgroundLayerEnabled = s.inputs.cfg.backgroundLayerEnabled
  pb      : u.pb = s.pb
  flags   : u.flags = s.flags

/-- The two states look alike to every renderer: also R[0] and R[8], CRAM, the latched values and the whole configuration. -/
structure RenderAlike (s u : State) : Prop extends LegacyAlike s u where
  reg0    : u.reg 0 = s.reg 0
  reg8    : u.reg 8 = s.reg 8
  cram    : u.cram = s.cram
  latched : u.latched = s.latched
  cfg     : u.inputs.cfg = s.inputs.cfg

/-- A renderer whose three parts do the same for both states. -/
structure Renderer.Alike (rr : Renderer) (s u : State) : Prop where
  backdrop   : rr.backdrop u = rr.backdrop s
  background : rr.background u = rr.background s
  sprites    : rr.sprites u = rr.sprites s

/-! ### The legacy renderers -/

namespace LegacyAlike
variable {s u : State} (h : LegacyAlike s u)
include h

theorem regNat {i : Fin 16} (hlo : 1 ≤ i.val) (hhi : i.val ≤ 7) : u.regNat i = s.regNat i :=
  congrArg BitVec.toNat (h.reg i hlo hhi)

theorem vramByte : u.vramByte = s.vramByte := by
  funext a
  rw [State.vramByte, h.vram, State.vramByte]

theorem vramNat : u.vramNat = s.vramNat := by
  funext a
  rw [State.vramNat, h.vramByte, State.vramNat]

theorem blk : u.blk = s.blk := by simp [State.blk, h.reg]

theorem size : u.size = s.size := by simp [State.size, h.reg]

theorem mag : u.mag = s.mag := by simp [State.mag, h.reg]

theorem zoom : u.zoom = s.zoom := by simp [State.zoom, h.mag]

theorem fixedColour : u.fixedColour = s.fixedColour := by
  funext n
  simp [State.fixedColour, h.palette]

theorem nibbleColour : u.nibbleColour = s.nibbleColour := by
  funext n bd
  simp [State.nibbleColour, h.fixedColour]

theorem legacyBackdrop : u.legacyBackdrop = s.legacyBackdrop := by
  simp [State.legacyBackdrop, State.backdropIndex, h.fixedColour, h.regNat]

theorem nameBase : u.nameBase = s.nameBase := by simp [State.nameBase, h.regNat]

theorem patternBase : u.patternBase = s.patternBase := by simp [State.patternBase, h.regNat]

theorem nameAt : u.nameAt = s.nameAt := by
  funext y x
  simp [State.nameAt, h.nameBase, h.vramNat]

theorem graphics1Pixel : u.graphics1Pixel = s.graphics1Pixel := by
  funext y bd x
  simp [State.graphics1Pixel, State.colourBase, h.nameAt, h.patternBase, h.vramByte, h.vramNat, h.nibbleColour, h.regNat]

theorem graphics2Pixel : u.graphics2Pixel = s.graphics2Pixel := by
  funext y bd x
  simp [State.graphics2Pixel, State.patAddrII, State.colAddrII, h.nameAt, h.vramByte, h.vramNat, h.nibbleColour, h.regNat]

theorem multicolourPixel : u.multicolourPixel = s.multicolourPixel := by
  funext y bd x
  simp [State.multicolourPixel, h.nameAt, h.patternBase, h.vramNat, h.nibbleColour]

theorem textPixel : u.textPixel = s.textPixel := by
  funext y bd x
  simp [State.textPixel, h.nameBase, h.patternBase, h.vramByte, h.vramNat, h.nibbleColour, h.regNat]

theorem legacyByte : u.legacyByte = s.legacyByte := by
  funext i k
  simp [State.legacyByte, State.sat, h.vramByte, h.regNat]

theorem legacySize : u.legacySize = s.legacySize := by simp [State.legacySize, h.size]

theorem drawLegacy : u.drawLegacy = s.drawLegacy := by
  have hplot : u.plotLegacy = s.plotLegacy := by
    funext colour x w
    simp [State.plotLegacy, h.fixedColour]
  have hbit : u.legacyBit = s.legacyBit := by
    funext i r q
    simp [State.legacyBit, State.spriteBase, h.zoom, h.size, h.legacyByte, h.vramByte, h.regNat]
  funext i r w
  simp [State.drawLegacy, State.legacyLeft, State.legacyColour, hplot, hbit, h.legacyByte, h.legacySize, h.zoom, h.params]

theorem legacyWalk (y : Nat) (entries : List Nat) :
    ∀ count w, u.legacyWalk y entries count w = s.legacyWalk y entries count w := by
  induction entries with
  | nil => exact fun _ _ => rfl
  | cons i rest ih =>
    intro count w
    simp only [State.legacyWalk, h.legacyByte, h.legacySize, h.zoom, h.cap, h.drawLegacy, ih]

theorem legacySprites : u.legacySprites = s.legacySprites := by
  funext y w
  exact h.legacyWalk y _ 0 w

/-- A legacy background by columns, with the sprite pass given. -/
theorem renderer {pixel : State → Nat → Colour → Nat → Colour} {sprites : State → Nat → LineWork → LineWork}
    (hpixel : pixel u = pixel s) (hsprites : sprites u = sprites s) :
    Renderer.Alike ⟨State.legacyBackdrop, legacyBackground pixel, sprites⟩ s u where
  backdrop := h.legacyBackdrop
  background := by funext y bd; simp [legacyBackground, hpixel]
  sprites := hsprites

theorem rendererGraphics1 : rendererGraphics1.Alike s u := h.renderer h.graphics1Pixel h.legacySprites

theorem rendererGraphics2 : rendererGraphics2.Alike s u := h.renderer h.graphics2Pixel h.legacySprites

theorem rendererMulticolour : rendererMulticolour.Alike s u := h.renderer h.multicolourPixel h.legacySprites

theorem rendererText : rendererText.Alike s u := h.renderer h.textPixel rfl

theorem rendererFallback : rendererFallback.Alike s u := ⟨h.legacyBackdrop, rfl, rfl⟩

/-- Rendering with a renderer that does the same for both states leaves the same line, CachedBackdrop, scratch arrays and
flags. -/
theorem renderLineWith {rr : Renderer} (hrr : rr.Alike s u) (y : Nat) :
    u.renderLineWith rr y =
      { u with
        pb := (s.renderLineWith rr y).pb
        cachedBackdrop := (s.renderLineWith rr y).cachedBackdrop
        scratch := (s.renderLineWith rr y).scratch
        flags := (s.renderLineWith rr y).flags } := by
  have hwork : u.lineWork rr = s.lineWork rr := by
    funext y bd
    simp [State.lineWork, hrr.background, hrr.sprites, h.layer]
  unfold State.renderLineWith
  simp only [h.blk, hwork, hrr.backdrop, h.pb, h.flags]
  split <;> simp

end LegacyAlike

/-! ### The Mode 4 renderer -/

namespace RenderAlike
variable {s u : State} (h : RenderAlike s u)
include h

theorem cramColour : u.cramColour = s.cramColour := by
  funext i
  simp [State.cramColour, State.cramByte, State.cramSize, h.params, h.cram]

theorem planarIndex : u.planarIndex = s.planarIndex := by
  funext a bit
  simp [State.planarIndex, State.vramBit, h.vramByte]

theorem lcb : u.lcb = s.lcb := by simp [State.lcb, h.reg0]

theorem mode4Backdrop : u.mode4Backdrop = s.mode4Backdrop := by
  simp [State.mode4Backdrop, State.backdropIndex, h.cramColour, h.regNat]

theorem scrollX : u.scrollX = s.scrollX := by
  funext y
  simp [State.scrollX, State.hsl, State.regNat, h.reg0, h.reg8]

theorem fineX : u.fineX = s.fineX := by
  funext y
  simp [State.fineX, h.scrollX]

theorem coarseX : u.coarseX = s.coarseX := by
  funext y
  simp [State.coarseX, h.scrollX]

theorem vrow : u.vrow = s.vrow := by
  funext y k
  simp [State.vrow, State.vsl, h.reg0, h.latched]

theorem entryAddr : u.entryAddr = s.entryAddr := by
  funext y k
  simp [State.entryAddr, State.nameBase4, State.tileCol, State.mirrorActive, h.vrow, h.coarseX, h.regNat, h.reg, h.params,
    h.cfg, h.latched]

theorem entryAt : u.entryAt = s.entryAt := by
  funext y x
  simp [State.entryAt, State.nameEntry, h.entryAddr, h.fineX, h.vramByte]

theorem indexAt : u.indexAt = s.indexAt := by
  funext y x
  simp [State.indexAt, State.tileIndex, h.planarIndex, h.entryAt, h.vrow, h.fineX]

theorem mode4Line : u.mode4Line = s.mode4Line := by
  have hpixel : u.mode4Pixel = s.mode4Pixel := by
    funext y bd x
    simp [State.mode4Pixel, h.lcb, h.cramColour, h.indexAt, h.entryAt]
  have hfg : u.mode4Fg = s.mode4Fg := by
    funext y x
    simp [State.mode4Fg, h.lcb, h.indexAt, h.entryAt]
  funext y bd
  simp [State.mode4Line, hpixel, hfg]

theorem sat4 : u.sat4 = s.sat4 := by simp [State.sat4, h.regNat]

theorem modernY : u.modernY = s.modernY := by
  funext i
  simp [State.modernY, h.sat4, h.vramByte]

theorem modernEnd : u.modernEnd = s.modernEnd := by
  funext i
  simp [State.modernEnd, h.modernY, h.latched]

theorem modernHeight : u.modernHeight = s.modernHeight := by simp [State.modernHeight, h.size, h.zoom]

theorem modernOver : u.modernOver = s.modernOver := by
  funext count
  simp [State.modernOver, h.mag, h.cfg]

theorem drawModern : u.drawModern = s.drawModern := by
  have hplot : u.plotModern = s.plotModern := by
    funext ci x w
    simp [State.plotModern, h.lcb, h.cramColour]
  have hindex : u.modernIndex = s.modernIndex := by
    funext i r q
    simp [State.modernIndex, State.modernPattern, State.spriteBase4, h.sat4, h.size, h.zoom, h.planarIndex, h.vramNat,
      h.regNat]
  funext i r w
  simp [State.drawModern, State.modernLeft, State.modernX, State.ec, hplot, hindex, h.sat4, h.zoom, h.vramNat, h.reg0]

theorem modernWalk (y : Nat) (entries : List Nat) :
    ∀ count w, u.modernWalk y entries count w = s.modernWalk y entries count w := by
  induction entries with
  | nil => exact fun _ _ => rfl
  | cons i rest ih =>
    intro count w
    simp only [State.modernWalk, h.modernEnd, h.modernY, h.modernHeight, h.modernOver, h.drawModern, ih]

theorem rendererMode4 : rendererMode4.Alike s u where
  backdrop := h.mode4Backdrop
  background := h.mode4Line
  sprites := funext fun y => funext fun w => h.modernWalk y _ 0 w

theorem of_rendererOf {i : Instr} {rr : Renderer} (hrr : rendererOf i = some rr) : rr.Alike s u := by
  obtain rfl | rfl | rfl | rfl | rfl | rfl := rendererOf_cases hrr
  · exact h.rendererMode4
  · exact h.rendererGraphics1
  · exact h.rendererGraphics2
  · exact h.rendererMulticolour
  · exact h.rendererText
  · exact h.rendererFallback

theorem modeVector : u.modeVector = s.modeVector := by
  simp [State.modeVector, State.m4, State.m3, State.m2, State.m1, h.reg, h.reg0, h.latched]

end RenderAlike

/-! ## The spare registers R[11] to R[15] (10_state R20) -/

/-- Apply `f` to the state that a move of the beam leaves, whether a fault stopped it or not. -/
def mapState (f : State → State) : Except State State → Except State State
  | .error e => .error (f e)
  | .ok t => .ok (f t)

section
variable (s : State) {r : BitVec 4} (v : Byte) (hr : 11 ≤ r.toNat)
include hr

theorem reg_setReg_spare {i : Fin 16} (hi : i.val < 11) : (s.setReg r v).reg i = s.reg i := by
  have hne : r.toNat ≠ i.val := by omega
  simp [State.reg, hne]

theorem renderAlike_setReg_spare : RenderAlike s (s.setReg r v) where
  reg i _ hi := reg_setReg_spare s v hr (by omega)
  vram := rfl
  params := rfl
  palette := rfl
  cap := rfl
  layer := rfl
  pb := rfl
  flags := rfl
  reg0 := reg_setReg_spare s v hr (by decide)
  reg8 := reg_setReg_spare s v hr (by decide)
  cram := rfl
  latched := rfl
  cfg := rfl

theorem renderLineWith_setReg_spare {i : Instr} {rr : Renderer} (hrr : rendererOf i = some rr) (y : Nat) :
    (s.setReg r v).renderLineWith rr y = (s.renderLineWith rr y).setReg r v := by
  have halike := renderAlike_setReg_spare s v hr
  rw [halike.renderLineWith (halike.of_rendererOf hrr), renderLineWith_frame s]
  rfl

theorem renderPhase_setReg_spare : (s.setReg r v).renderPhase = s.renderPhase.setReg r v := by
  obtain ⟨rr, hrr, hline⟩ := renderLine_eq s
  obtain ⟨rr', hrr', hline'⟩ := renderLine_eq (s.setReg r v)
  rw [(renderAlike_setReg_spare s v hr).modeVector, hrr] at hrr'
  obtain rfl := Option.some.inj hrr'
  unfold State.renderPhase
  rw [hline, hline', renderLineWith_setReg_spare _ v hr hrr]
  exact (apply_ite (State.setReg · r v) _ _ _).symm

theorem lineInterrupt_setReg_spare : (s.setReg r v).lineInterrupt = s.lineInterrupt.setReg r v := by
  have h10 : (s.setReg r v).regNat 10 = s.regNat 10 := congrArg BitVec.toNat (reg_setReg_spare s v hr (by decide))
  simp only [State.lineInterrupt, h10, setReg_inputs, setReg_beam, setReg_latched, setReg_params, setReg_lineCounter]
  (repeat' split) <;> rfl

theorem linePhases_setReg_spare : (s.setReg r v).linePhases = s.linePhases.setReg r v := by
  have hframe (u : State) : (u.setReg r v).framePhase = u.framePhase.setReg r v := by
    obtain ⟨hsd, h⟩ | ⟨hsd, h⟩ := framePhase_cases u
    · rw [h]
      exact if_pos hsd
    · rw [h]
      exact if_neg hsd
  unfold State.linePhases
  rw [← lineInterrupt_setReg_spare _ v hr, ← hframe]
  exact congrArg (fun u => u.countLine.framePhase.lineInterrupt) (renderPhase_setReg_spare s.sampleCycle v hr)

theorem beginFrame_setReg_spare : (s.setReg r v).beginFrame = s.beginFrame.map (State.setReg · r v) := by
  have hlatch (sys : TvSystem) : (s.setReg r v).latchFrame sys = (s.latchFrame sys).setReg r v := by
    rw [State.latchFrame, reg_setReg_spare s v hr (by decide)]
    rfl
  unfold State.beginFrame
  simp only [setReg_inputs, hlatch]
  split <;> rfl

theorem enterNext_setReg_spare : (s.setReg r v).enterNext = mapState (State.setReg · r v) s.enterNext := by
  by_cases h : s.beam.region.next = .activeDisplay
  · rw [enterNext_beginFrame h, enterNext_beginFrame (s := s.setReg r v) h]
    have hbegin := beginFrame_setReg_spare s.toNextRegion v hr
    change (s.setReg r v).toNextRegion.beginFrame = _ at hbegin
    rw [hbegin]
    cases s.toNextRegion.beginFrame <;> rfl
  · rw [enterNext_loadRegion h, enterNext_loadRegion (s := s.setReg r v) h]
    rfl

theorem passRegions_setReg_spare (fuel : Nat) :
    State.passRegions fuel (s.setReg r v) = mapState (State.setReg · r v) (State.passRegions fuel s) := by
  induction fuel generalizing s with
  | zero => rfl
  | succ fuel ih =>
    simp only [State.passRegions, setReg_beam, enterNext_setReg_spare s v hr]
    split
    · cases s.enterNext with
      | error f => rfl
      | ok t => exact ih t
    · rfl

theorem advanceRegion_setReg_spare :
    (s.setReg r v).advanceRegion = mapState (State.setReg · r v) s.advanceRegion :=
  passRegions_setReg_spare { s with beam := { s.beam with remaining := s.beam.remaining - 1 } } v hr 6

theorem lineStep_setReg_spare : (s.setReg r v).lineStep = s.lineStep.setReg r v := by
  have hadvance : ((s.setReg r v).answer 0).linePhases.advanceRegion =
      mapState (State.setReg · r v) (s.answer 0).linePhases.advanceRegion := by
    rw [← advanceRegion_setReg_spare _ v hr, ← linePhases_setReg_spare _ v hr]
    rfl
  unfold State.lineStep
  rw [hadvance]
  cases (s.answer 0).linePhases.advanceRegion <;> rfl

theorem readWord_setReg_spare (i : Instr) : (s.setReg r v).readWord i = s.readWord i := by
  cases i
  case irqrd =>
    have h0 := reg_setReg_spare s v hr (i := 0) (by decide)
    have h1 := reg_setReg_spare s v hr (i := 1) (by decide)
    simp [State.readWord, State.irq, State.ie0, State.ie1, h0, h1]
  all_goals rfl

/-- Whatever a spare register holds, an instruction that is not a REGWR has the same effect. -/
theorem Effect.setReg_spare {s t : State} {i : Instr} (hi : ∀ q w, i ≠ .regwr q w) (h : Effect s i t) :
    Effect (s.setReg r v) i (t.setReg r v) := by
  cases h with
  | regwr q w => exact absurd rfl (hi q w)
  | vramwr a w => exact .vramwr a w
  | cramwr a w => exact .cramwr a w
  | flagclr m => exact .flagclr m
  | illegalE => exact .illegalE
  | illegalF => exact .illegalF
  | line => exact lineStep_setReg_spare s v hr ▸ .line
  | render hrr => exact renderLineWith_setReg_spare s v hr hrr s.beam.sd ▸ .render hrr
  | read hrd => exact .read ((readWord_setReg_spare s v hr i).trans hrd)

end

/-! ## The obligations -/

/-- Settles O52: among the things an instruction can do, only the three ports write registers, VRAM or CRAM. -/
theorem onlyWritePortsWrite : Obligations.OnlyWritePortsWrite := by
  intro s t i h
  cases exec_eq_next_iff.mp h with
  | line => rw [lineStep_frame]; simp
  | render => rw [renderLineWith_frame]; simp
  | regwr | vramwr | cramwr | flagclr | illegalE | illegalF | read => simp

/-- Settles O53: outside LINE no update touches the position in the frame, and in LINE only BeginFrame latches. -/
theorem onlyLineMovesTheBeam : Obligations.OnlyLineMovesTheBeam := by
  intro s t i h
  cases exec_eq_next_iff.mp h with
  | line => exact ⟨fun hi => absurd rfl hi, fun hl => ⟨rfl, (lineStep_latched s).resolve_left hl⟩⟩
  | render => rw [renderLineWith_frame]; simp
  | regwr | vramwr | cramwr | flagclr | illegalE | illegalF | read => simp

/-- Settles O55: every operation of an instruction other than REGWR commutes with writing a spare register. -/
theorem spareRegistersAreReadByNothing : Obligations.SpareRegistersAreReadByNothing :=
  fun _ _ _ _ v hr hi h => exec_of_effect ((effect_of_exec h).setReg_spare v hr hi)

/-- Settles O58, by evaluating the invariant on the one state right after reset. -/
theorem invariantAtReset : Obligations.InvariantAtReset := by
  unfold Obligations.InvariantAtReset
  decide

end Sys2Proof.Machine
end

section
/-! Proofs of the memory family (20_memory): the result word of a read does not depend on the outputs, so a read done
twice answers twice the same. -/

namespace Sys2Proof.Machine

/-! ## Reads and the outputs -/

@[simp] theorem answer_answer (s : State) (rd rd' : Word) : (s.answer rd).answer rd' = s.answer rd' := rfl

/-- A result word is computed from the state without its outputs (20_memory R69). -/
@[simp] theorem readWord_answer (s : State) (rd : Word) (i : Instr) : (s.answer rd).readWord i = s.readWord i := by
  cases i <;> rfl

theorem exec_of_readWord {s : State} {i : Instr} {rd : Word} (h : s.readWord i = some rd) :
    exec i s = .next (s.answer rd) := exec_of_effect (.read h)

/-- The same read done next answers the same. -/
theorem exec_answer_of_readWord {s : State} {i : Instr} {rd : Word} (h : s.readWord i = some rd) :
    exec i (s.answer rd) = .next (s.answer rd) := by
  have hagain : (s.answer rd).readWord i = some rd := by rw [readWord_answer, h]
  rw [exec_of_readWord hagain, answer_answer]

/-! ## The obligation -/

/-- Settles O20: each of the eight commands has a result word, and an instruction that has one only answers it. -/
theorem readsHaveNoSideEffect : Obligations.ReadsHaveNoSideEffect := by
  intro s i hi
  have hread : ∃ rd, s.readWord i = some rd := by
    obtain ⟨a, rfl⟩ | ⟨a, rfl⟩ | rfl | rfl | rfl | rfl | ⟨x, y, rfl⟩ | rfl := hi <;> exact ⟨_, rfl⟩
  obtain ⟨rd, hrd⟩ := hread
  exact ⟨s.answer rd, exec_of_readWord hrd, rfl, exec_answer_of_readWord hrd⟩

end Sys2Proof.Machine
end

section
/-! Proofs of the encoding family (30_encoding). First the fields of command words and mode vectors, what they decode to
and the pseudo-instructions; then the status flags, the mode bits, the placed instruction and what rendering leaves behind
in a line step; then the obligations. -/

namespace Sys2Proof

/-! ## The fields of a command word (30_encoding R80) -/

section
variable (op : BitVec 4) (a : BitVec 14) (d : Byte)

/-- The layout of R80: D, A, RSV and OP from bit 0 up. -/
theorem getLsbD_commandWord (i : Nat) :
    (commandWord op a d).getLsbD i =
      if i < 8 then d.getLsbD i
      else if i < 22 then a.getLsbD (i - 8)
      else if i < 28 then false
      else op.getLsbD (i - 28) := by
  have hd (h : ¬ i < 8) : d.getLsbD i = false := BitVec.getLsbD_of_ge d i (by omega)
  have ha (h : ¬ i < 22) : a.getLsbD (i - 8) = false := BitVec.getLsbD_of_ge a (i - 8) (by omega)
  simp only [commandWord, BitVec.getLsbD_or, BitVec.getLsbD_shiftLeft, BitVec.getLsbD_setWidth]
  split_ifs with h8 h22 h28
  · simp [h8, show i < 28 by omega, show i < 32 by omega]
  · simp [h8, hd h8, show i < 28 by omega, show i < 32 by omega, show i - 8 < 32 by omega]
  · simp [h28, hd h8, ha h22]
  · cases hbit : op.getLsbD (i - 28) with
    | false => simp [hd h8, ha h22]
    | true =>
      have hlt : i - 28 < 4 := BitVec.lt_of_getLsbD hbit
      simp [h28, show i < 32 by omega, show i - 28 < 32 by omega]

@[simp] theorem opField_commandWord : opField (commandWord op a d) = op := by
  ext i hi
  simp [opField, getLsbD_commandWord, hi, show ¬ 28 + i < 8 by omega, show ¬ 28 + i < 22 by omega]

@[simp] theorem aField_commandWord : aField (commandWord op a d) = a := by
  ext i hi
  simp [aField, getLsbD_commandWord, hi, show 8 + i < 22 by omega]

@[simp] theorem dField_commandWord : dField (commandWord op a d) = d := by
  ext i hi
  simp [dField, getLsbD_commandWord, hi]

end

section
variable (w : Word)

theorem aIndex_eq_aField : aIndex w = (aField w).setWidth 4 := (BitVec.setWidth_extractLsb'_of_le (by decide)).symm

theorem aByte_eq_aField : aByte w = (aField w).setWidth 8 := (BitVec.setWidth_extractLsb'_of_le (by decide)).symm

theorem dMask_eq_dField : dMask w = (dField w).setWidth 4 := (BitVec.setWidth_extractLsb'_of_le (by decide)).symm

/-- Cutting a field to its low bits and writing them back masks the field. -/
theorem setWidth_setWidth_eq_and {n : Nat} (k : Nat) (x : BitVec n) :
    (x.setWidth k).setWidth n = x &&& (BitVec.allOnes k).setWidth n := by
  ext i hi
  simp [hi, Bool.and_comm]

theorem setWidth_aIndex : (aIndex w).setWidth 14 = aField w &&& 0x000F := by
  rw [aIndex_eq_aField]
  exact setWidth_setWidth_eq_and 4 (aField w)

theorem setWidth_aByte : (aByte w).setWidth 14 = aField w &&& 0x00FF := by
  rw [aByte_eq_aField]
  exact setWidth_setWidth_eq_and 8 (aField w)

theorem setWidth_dMask : (dMask w).setWidth 8 = dField w &&& 0x0F := by
  rw [dMask_eq_dField]
  exact setWidth_setWidth_eq_and 4 (dField w)

/-- Masking a word leaves OP, clears RSV and masks the two operands. -/
theorem and_commandWord (ma : BitVec 14) (md : Byte) :
    w &&& commandWord 0xF ma md = commandWord (opField w) (aField w &&& ma) (dField w &&& md) := by
  ext i hi
  simp only [← BitVec.getLsbD_eq_getElem, BitVec.getLsbD_and, getLsbD_commandWord]
  split_ifs with h8 h22 h28
  · simp [dField, h8]
  · simp [aField, show i - 8 < 14 by omega, show 8 + (i - 8) = i by omega]
  · simp
  · have hop : i - 28 < 4 := by omega
    have hones : (0xF : BitVec 4).getLsbD (i - 28) = true :=
      BitVec.getLsbD_allOnes.trans (decide_eq_true hop)
    rw [hones]
    simp [opField, hop, show 28 + (i - 28) = i by omega]

theorem toNat_opField : (opField w).toNat = w.toNat / 2 ^ 28 := by
  have hlt := w.isLt
  simp only [opField, BitVec.extractLsb'_toNat, Nat.shiftRight_eq_div_pow]
  omega

theorem dMask_eq_ofNat : dMask w = BitVec.ofNat 4 (w.toNat % 16) :=
  BitVec.eq_of_toNat_eq (by simp [dMask])

end

/-! ## Command words (30_encoding R81, R86) -/

/-- The bits of A that an OP uses. -/
def usedA (op : BitVec 4) : BitVec 14 :=
  match op.toNat with
  | 0x1 => 0x000F
  | 0x2 | 0x3 | 0x4 | 0x5 => 0x3FFF
  | 0xC => 0x00FF
  | _ => 0

/-- The bits of D that an OP uses. -/
def usedD (op : BitVec 4) : Byte :=
  match op.toNat with
  | 0x1 | 0x2 | 0x4 | 0xC => 0xFF
  | 0x7 => 0x0F
  | _ => 0

theorem usedBits_eq_commandWord (op : BitVec 4) : usedBits op = commandWord 0xF (usedA op) (usedD op) := by
  revert op
  decide

theorem and_usedBits (w : Word) (op : BitVec 4) :
    w &&& usedBits op = commandWord (opField w) (aField w &&& usedA op) (dField w &&& usedD op) := by
  rw [usedBits_eq_commandWord, and_commandWord]

theorem wellFormed_decodeCommand (w : Word) : (decodeCommand w).wellFormed = true := by
  unfold decodeCommand
  split <;> rfl

/-- Encoding what a word decodes to gives the word with the bits its OP does not use zero: OP by OP, the operands are the
masked fields. -/
theorem encode_decodeCommand (w : Word) : encode (decodeCommand w) = .command (w &&& usedBits (opField w)) := by
  have ha : aField w &&& 0x3FFF#14 = aField w := BitVec.and_allOnes
  have hd : dField w &&& 0xFF#8 = dField w := BitVec.and_allOnes
  rw [and_usedBits]
  unfold decodeCommand
  have hlt := (opField w).isLt
  interval_cases hop : (opField w).toNat
  all_goals
    have hlit := congrArg (BitVec.ofNat 4) hop
    rw [BitVec.ofNat_toNat, BitVec.setWidth_eq] at hlit
    simp [hlit, encode, usedA, usedD, setWidth_aIndex, setWidth_aByte, setWidth_dMask, ha, hd]

/-! ## Mode vectors (30_encoding R82) -/

section
variable (hsel : BitVec 2) (m4 m3 m2 m1 : Bool)

@[simp] theorem hselField_modeVector : hselField (modeVector hsel m4 m3 m2 m1) = hsel := by
  revert hsel m4 m3 m2 m1
  decide

/-- The table of R82. -/
theorem selectRenderer_modeVector :
    selectRenderer (modeVector hsel m4 m3 m2 m1) =
      if m4 then .mode4 hsel m3 m2 m1
      else if m3 then (if m2 then (if m1 then .fallback7 hsel else .fallback6 hsel)
                       else if m1 then .fallback5 hsel else .multicolour hsel)
      else if m2 then (if m1 then .fallback3 hsel else .graphics2 hsel)
      else if m1 then .text hsel else .graphics1 hsel := by
  revert hsel m4 m3 m2 m1
  decide

end

theorem modeVector_fields (v : BitVec 6) :
    modeVector (hselField v) (v.getLsbD 3) (v.getLsbD 2) (v.getLsbD 1) (v.getLsbD 0) = v := by
  revert v
  decide

theorem exists_modeVector (v : BitVec 6) : ∃ hsel m4 m3 m2 m1, v = modeVector hsel m4 m3 m2 m1 :=
  ⟨_, _, _, _, _, (modeVector_fields v).symm⟩

theorem decode_mode {v : BitVec 6} (h : hselField v ≠ 3) : decode (.mode v) = .ok (selectRenderer v) := if_neg h

theorem decode_mode_eq_ok_iff {v : BitVec 6} {i : Instr} :
    decode (.mode v) = .ok i ↔ hselField v ≠ 3 ∧ selectRenderer v = i := by
  by_cases h : hselField v = 3
  · simp [decode, h]
  · rw [decode_mode h, Except.ok.injEq]
    exact (and_iff_right h).symm

theorem encode_selectRenderer (v : BitVec 6) : encode (selectRenderer v) = .mode v := by
  obtain ⟨hsel, m4, m3, m2, m1, rfl⟩ := exists_modeVector v
  rw [selectRenderer_modeVector]
  cases m4 <;> cases m3 <;> cases m2 <;> cases m1 <;> rfl

/-- A renderer selection is well-formed just when its Hsel is not 3. -/
theorem wellFormed_selectRenderer (v : BitVec 6) : (selectRenderer v).wellFormed = (hselField v != 3) := by
  obtain ⟨hsel, m4, m3, m2, m1, rfl⟩ := exists_modeVector v
  rw [selectRenderer_modeVector, hselField_modeVector]
  cases m4 <;> cases m3 <;> cases m2 <;> cases m1 <;> rfl

/-! ## Decoding what was encoded -/

/-- Every operand is read back from the field it was written to. -/
theorem decode_encode {i : Instr} (h : i.wellFormed = true) : decode (encode i) = .ok i := by
  cases i
  case mode4 | graphics1 | graphics2 | multicolour | text | fallback3 | fallback5 | fallback6 | fallback7 =>
    rw [encode, decode_mode (by simpa [Instr.wellFormed] using h), selectRenderer_modeVector]
    rfl
  case nop | regwr | vramwr | vramrd | cramwr | cramrd | statrd | flagclr | vcntrd | hcntrd | irqrd | line | framerd |
      framedim | illegalE | illegalF =>
    simp [encode, decode, decodeCommand, aIndex_eq_aField, aByte_eq_aField, dMask_eq_dField]

/-! ## Pseudo-instructions (30_encoding R84) -/

theorem length_vramwrFrom (a : Nat) (bytes : List Byte) : (vramwrFrom a bytes).length = bytes.length := by
  induction bytes generalizing a with
  | nil => rfl
  | cons b rest ih => simp [vramwrFrom, ih]

theorem getElem?_vramwrFrom (a : Nat) (bytes : List Byte) (k : Nat) :
    (vramwrFrom a bytes)[k]? = bytes[k]?.map (.vramwr (BitVec.ofNat 14 (a + k))) := by
  induction bytes generalizing a k with
  | nil => rfl
  | cons b rest ih =>
    cases k with
    | zero => rfl
    | succ k => simpa [vramwrFrom, Nat.add_assoc, Nat.add_comm 1] using ih (a + 1) k

/-- The mask `& 0x3FFF` is the width of an address. -/
theorem ofNat_mod_vramSize (a : Nat) : BitVec.ofNat 14 (a % 0x4000) = BitVec.ofNat 14 a :=
  BitVec.eq_of_toNat_eq (by simp)

namespace Machine

/-! ## The status flags (30_encoding R96) -/

@[simp] theorem getElem_flagBit (b : Bool) (n : Nat) {i : Nat} (hi : i < 32) :
    (flagBit b n)[i] = (b && decide (n = i)) := by
  have hbit : n < 32 ∧ n = i ↔ n = i := by omega
  cases b <;> simp [flagBit, ← BitVec.getLsbD_eq_getElem, ← Bool.decide_and, hbit]

theorem getLsbD_statusWord (f : Flags) (n : Nat) :
    f.statusWord.getLsbD n =
      if n = 7 then f.framePending
      else if n = 6 then f.spriteOverflow
      else if n = 5 then f.spriteCollision
      else if n < 5 then f.overflowIndex.getLsbD n
      else if n = 8 then f.linePending
      else if n < 15 then f.overflowIndex.getLsbD (n - 9)
      else false := by
  unfold Flags.statusWord
  by_cases hn : n < 32
  · interval_cases n <;> simp
  · have hne (k : Nat) (hk : k < 32) : n ≠ k := by omega
    have hge (k : Nat) (hk : k ≤ 32) : ¬ n < k := by omega
    rw [BitVec.getLsbD_of_ge _ _ (Nat.le_of_not_lt hn)]
    simp [hne, hge]

/-! ## The mode vector of the registers (30_encoding R82) -/

theorem hselOf_eq (h : Height) : hselOf h = if h.toNat = 192 then 0 else if h.toNat = 224 then 1 else 2 := by
  cases h <;> rfl

theorem hselOf_ne_three (h : Height) : hselOf h ≠ 3 := by
  cases h <;> decide

theorem hselOf_heightOf {hsel : BitVec 2} (h : hsel ≠ 3) : hselOf (heightOf hsel) = hsel := by
  revert hsel
  decide

theorem decode_modeVector (s : State) : decode (.mode s.modeVector) = .ok (selectRenderer s.modeVector) :=
  decode_mode (by rw [State.modeVector, hselField_modeVector]; exact hselOf_ne_three _)

/-! ## The placed instruction (log 3) -/

theorem withFetchWord_command (s : State) (w : Word) : s.withFetchWord 32 w.toNat = s.withCommand w := by
  simp [State.withFetchWord, tableWord, w.isLt, State.withEncoded]

theorem withFetchWord_mode (s : State) (v : BitVec 6) :
    s.withFetchWord 8 v.toNat = (s.withMode v).withCommand lineWord := by
  simp [State.withFetchWord, tableWord, v.isLt, State.withEncoded]

theorem step_withCommand (s : State) (w : Word) :
    step (s.withCommand w) = exec (decodeCommand w) { s with fault := none } := rfl

@[simp] theorem getElem_putBit (v : Byte) (n : Nat) (b : Bool) {i : Nat} (hi : i < 8) :
    (putBit v n b)[i] = if n = i then b else v[i] := by
  cases b <;> by_cases h : n = i <;> simp [putBit, h, eq_comm (a := i)]

section
variable (s : State) (v : BitVec 6)

theorem withMode_reg0 : (s.withMode v).reg 0 = putBit (putBit (s.reg 0) 2 (v.getLsbD 3)) 1 (v.getLsbD 1) := by
  simp [State.withMode, State.reg]

theorem withMode_reg1 :
    (s.withMode v).reg 1 = putBit (putBit (putBit (s.reg 1) 6 true) 4 (v.getLsbD 0)) 3 (v.getLsbD 2) := by
  simp [State.withMode, State.reg]

@[simp] theorem withMode_m4 : (s.withMode v).m4 = v.getLsbD 3 := by simp [State.m4, withMode_reg0]

@[simp] theorem withMode_m3 : (s.withMode v).m3 = v.getLsbD 2 := by simp [State.m3, withMode_reg1]

@[simp] theorem withMode_m2 : (s.withMode v).m2 = v.getLsbD 1 := by simp [State.m2, withMode_reg0]

@[simp] theorem withMode_m1 : (s.withMode v).m1 = v.getLsbD 0 := by simp [State.m1, withMode_reg1]

@[simp] theorem withMode_blk : (s.withMode v).blk = true := by simp [State.blk, withMode_reg1]

@[simp] theorem withMode_height : (s.withMode v).latched.h = heightOf (hselField v) := rfl

theorem modeVector_withMode {v : BitVec 6} (hv : hselField v ≠ 3) : (s.withMode v).modeVector = v := by
  simp only [State.modeVector, withMode_height, hselOf_heightOf hv, withMode_m4, withMode_m3, withMode_m2, withMode_m1,
    modeVector_fields]

end

/-! ## What rendering leaves behind in a line step (42_beam R165, R167) -/

/-- What rendering writes, CachedBackdrop aside: the Pixel Buffer, the scratch arrays and the sprite flags. -/
def State.rendering (s : State) : PixelBuffer × Scratch × Bool × Bool × BitVec 6 :=
  (s.pb, s.scratch, s.flags.spriteOverflow, s.flags.spriteCollision, s.flags.overflowIndex)

/-- Line SD rendered with `rr`, if the beam is in ActiveDisplay. -/
def State.renderedWith (s : State) (rr : Renderer) : State :=
  if s.beam.region = .activeDisplay then s.renderLineWith rr s.beam.sd else s

/-- No renderer reads what a line step writes before its render phase: the outputs and LineStartCycles. -/
theorem renderAlike_sampleCycle (s : State) : RenderAlike s (s.answer 0).sampleCycle :=
  ⟨⟨fun _ _ _ => rfl, rfl, rfl, rfl, rfl, rfl, rfl, rfl⟩, rfl, rfl, rfl, rfl, rfl⟩

theorem renderPhase_sampleCycle {s : State} {rr : Renderer}
    (hrr : rendererOf (selectRenderer s.modeVector) = some rr) :
    (s.answer 0).sampleCycle.renderPhase = ((s.renderedWith rr).answer 0).sampleCycle := by
  have halike := renderAlike_sampleCycle s
  have hline : (s.answer 0).sampleCycle.renderLine = ((s.renderLineWith rr s.beam.sd).answer 0).sampleCycle := by
    rw [State.renderLine, halike.modeVector, hrr]
    dsimp only [sampleCycle_beam, answer_beam]
    rw [halike.renderLineWith (halike.of_rendererOf hrr), renderLineWith_frame s]
    rfl
  rw [State.renderPhase, hline]
  exact (apply_ite (fun u : State => (u.answer 0).sampleCycle) _ _ _).symm

/-- After the render phase no phase of the line step writes what rendering writes. -/
theorem linePhases_rendering (s : State) :
    s.linePhases.rendering = s.sampleCycle.renderPhase.rendering ∧
    s.linePhases.cachedBackdrop = s.sampleCycle.renderPhase.cachedBackdrop := by
  unfold State.linePhases
  rw [lineInterrupt_frame, framePhase_frame]
  exact ⟨rfl, rfl⟩

/-- The region advance writes CachedBackdrop only where it begins a frame, which ends on line 0 (42_beam R161). -/
theorem advanceRegion_rendering (s : State) :
    (endState s.advanceRegion).rendering = s.rendering ∧
    ((endState s.advanceRegion).beam.sd = 0 ∨ (endState s.advanceRegion).cachedBackdrop = s.cachedBackdrop) :=
  advanceRegion_keeps
    (P := fun u => u.rendering = s.rendering ∧ (u.beam.sd = 0 ∨ u.cachedBackdrop = s.cachedBackdrop))
    (fun _ _ _ h => h) (fun _ _ h => ⟨h.left, .inl rfl⟩) (fun _ _ h => h) ⟨rfl, .inr rfl⟩

theorem lineStep_rendering {s : State} {rr : Renderer} (hrr : rendererOf (selectRenderer s.modeVector) = some rr) :
    s.lineStep.rendering = (s.renderedWith rr).rendering ∧
    (s.lineStep.beam.sd = 0 ∨ s.lineStep.cachedBackdrop = (s.renderedWith rr).cachedBackdrop) := by
  obtain ⟨o, ho⟩ := lineStep_eq_endState s
  obtain ⟨hphases, hphasesBd⟩ := linePhases_rendering (s.answer 0)
  rw [renderPhase_sampleCycle hrr] at hphases hphasesBd
  obtain ⟨hadvance, hadvanceBd⟩ := advanceRegion_rendering (s.answer 0).linePhases
  rw [ho]
  exact ⟨hadvance.trans hphases, hadvanceBd.imp_right (·.trans hphasesBd)⟩

/-! ## The obligations -/

/-- Settles O3: operands are read back from the fields they were written to, and the bits of a mode vector are all fields. -/
theorem decodeAndEncodeAgree : Obligations.DecodeAndEncodeAgree := by
  refine ⟨fun i => decode_encode, fun v i h => ?_⟩
  obtain ⟨hne, rfl⟩ := decode_mode_eq_ok_iff.mp h
  exact ⟨encode_selectRenderer v, by simpa [wellFormed_selectRenderer] using hne⟩

/-- Settles O2: encoding what a word decodes to masks it with the bits used, and commands with one encoding are the same. -/
theorem unusedBitsAreIgnored : Obligations.UnusedBitsAreIgnored := by
  refine ⟨fun v w h => ?_, encode_decodeCommand⟩
  have hop : opField v = opField w := by
    simpa [and_usedBits] using congrArg opField h
  have hencode : encode (decodeCommand v) = encode (decodeCommand w) := by
    rw [encode_decodeCommand, encode_decodeCommand, hop, h]
  have hdecode := congrArg decode hencode
  rw [decode_encode (wellFormed_decodeCommand v), decode_encode (wellFormed_decodeCommand w)] at hdecode
  exact Except.ok.inj hdecode

/-- Settles O5: VFILL and VWRITE by the place of each byte in the list, LINES and ACK by their definitions. -/
theorem pseudoInstructionsExpand : Obligations.PseudoInstructionsExpand := by
  refine ⟨fun a n v => ⟨?_, fun k hk => ?_⟩, fun a bytes => ⟨length_vramwrFrom a bytes, fun k b hb => ?_⟩,
    fun n k => ?_, rfl⟩
  · simp [Pseudo.expand, length_vramwrFrom]
  · simp [Pseudo.expand, getElem?_vramwrFrom, ofNat_mod_vramSize, hk]
  · simp [Pseudo.expand, getElem?_vramwrFrom, ofNat_mod_vramSize, hb]
  · simp [Pseudo.expand, List.getElem?_replicate]

/-- Settles O9: only the render phase of the line step, and BeginFrame for CachedBackdrop, write what rendering writes. -/
theorem lineRendersWithTheDecodedMode : Obligations.LineRendersWithTheDecodedMode := by
  intro s i hi
  obtain ⟨-, rfl⟩ := decode_mode_eq_ok_iff.mp hi
  obtain ⟨rr, hrr, -⟩ := renderLine_eq s
  refine ⟨s.lineStep, s.renderLineWith rr s.beam.sd, exec_of_effect .line, exec_of_effect (.render hrr), ?_⟩
  obtain ⟨hrendering, hbd⟩ := lineStep_rendering hrr
  simp only [State.rendering, Prod.mk.injEq] at hrendering
  obtain ⟨hpb, hscratch, hoverflow, hcollision, hindex⟩ := hrendering
  exact ⟨hpb, hscratch, hoverflow, hcollision, hindex, hbd.resolve_left⟩

/-- Settles O14: STATRD is a read, and its result word is the status word, bit by bit. -/
theorem statusWordBits : Obligations.StatusWordBits := fun s =>
  ⟨s.answer s.flags.statusWord, exec_of_readWord rfl, rfl, getLsbD_statusWord s.flags⟩

/-- Settles O1, by evaluating the decoder on the fifteen encodings. -/
theorem writtenOutWordsDecode : Obligations.WrittenOutWordsDecode := by
  unfold Obligations.WrittenOutWordsDecode
  decide

/-- Settles O4: the mode vector of the registers never has Hsel = 3, and the decoder reads the table of R82. -/
theorem modeBitsSelectRenderer : Obligations.ModeBitsSelectRenderer := by
  intro s
  rw [decode_modeVector, State.modeVector, selectRenderer_modeVector, hselOf_eq]
  rfl

/-- Settles O8: a placed command word is the pending input, and a placed mode vector is read back from the registers. -/
theorem placedInstructionRunsNext : Obligations.PlacedInstructionRunsNext := by
  refine ⟨fun s w => ?_, fun s v hv => ?_⟩
  · rw [withFetchWord_command, step_withCommand]
  · rw [withFetchWord_mode]
    exact ⟨modeVector_withMode s hv, withMode_blk s v, rfl, rfl, rfl, rfl⟩

/-- Settles O15: OP 7 is FLAGCLR, which keeps a flag just when its mask bit is clear. -/
theorem flagclrClearsTheSelectedFlags : Obligations.FlagclrClearsTheSelectedFlags := by
  have hclear (b c : Bool) : (b && !c) = if c then false else b := by cases c <;> simp
  refine ⟨fun w hop => ?_, fun s m => ⟨_, exec_of_effect (.flagclr m), rfl, ?_⟩⟩
  · rw [← toNat_opField] at hop
    simp [decodeCommand, hop, dMask_eq_ofNat]
  · exact ⟨hclear _ _, hclear _ _, hclear _ _, hclear _ _, rfl⟩

end Machine

end Sys2Proof
end

section
/-! Proofs of the host-command family (40_host_ops). First the rules the commands need: the step by the input it takes,
reading after writing, the counter tables, the frame reads, and the outputs; then the obligations. -/

namespace Sys2Proof

/-! ## The counter tables (41_counter_tables R143, R146) -/

/-- Past the threshold the vertical counter never jumps again. -/
theorem getElem?_buildV_past {threshold v : Nat} (hv : threshold < v) (jump : Nat) {rows n : Nat} (hn : n < rows) :
    (buildV threshold jump rows v)[n]? = some (BitVec.ofNat 8 (v + n)) := by
  induction n generalizing v rows with
  | zero =>
    obtain ⟨rows, rfl⟩ := Nat.exists_eq_add_one.mpr hn
    rfl
  | succ n ih =>
    obtain ⟨rows, rfl⟩ := Nat.exists_eq_add_one.mpr (Nat.zero_lt_of_lt hn)
    have hne : v ≠ threshold := by omega
    rw [buildV, if_neg hne, List.getElem?_cons_succ, ih (by omega) (by omega), Nat.add_right_comm v 1 n, Nat.add_assoc]

/-- Up to the threshold the vertical counter counts lines; after it, it counts on from the jump. -/
theorem getElem?_buildV {threshold jump v : Nat} (hjump : threshold < jump) (hv : v ≤ threshold) {rows n : Nat}
    (hn : n < rows) :
    (buildV threshold jump rows v)[n]? =
      some (BitVec.ofNat 8 (if v + n ≤ threshold then v + n else jump + (v + n - threshold - 1))) := by
  induction n generalizing v rows with
  | zero =>
    obtain ⟨rows, rfl⟩ := Nat.exists_eq_add_one.mpr hn
    exact congrArg (some <| BitVec.ofNat 8 ·) (if_pos hv).symm
  | succ n ih =>
    obtain ⟨rows, rfl⟩ := Nat.exists_eq_add_one.mpr (Nat.zero_lt_of_lt hn)
    have hn' : n < rows := by omega
    rw [buildV, List.getElem?_cons_succ]
    by_cases heq : v = threshold
    · have hover : ¬ v + (n + 1) ≤ threshold := by omega
      have hsince : v + (n + 1) - threshold - 1 = n := by omega
      rw [if_pos heq, getElem?_buildV_past hjump jump hn', if_neg hover, hsince]
    · rw [if_neg heq, ih (by omega) hn', Nat.add_right_comm v 1 n, Nat.add_assoc]

theorem getElem?_hTable (p : Params) {i : Nat} (hi : i < p.cyclesPerLine) :
    (hTable p)[i]? = some (hEntry p.hcCeiling p.hcRestart i) := by
  simp [hTable, hi]

namespace Machine

theorem toNat_vCount {s : State} (hjump : jumpOk s.params s.latched.sys s.latched.h = true)
    (hsd : s.beam.sd < s.frameLines) :
    s.vCount.toNat =
      (if s.beam.sd ≤ s.params.vcThreshold.get s.latched.sys s.latched.h then s.beam.sd
        else s.params.vcJump.get s.latched.sys s.latched.h +
          (s.beam.sd - s.params.vcThreshold.get s.latched.sys s.latched.h - 1)) % 256 := by
  rw [State.frameLines] at hsd
  rw [State.vCount, vTable, getElem?_buildV (of_decide_eq_true hjump) (Nat.zero_le _) hsd, Nat.zero_add]
  exact BitVec.toNat_ofNat _ _

/-- The cycles since the latest line step: the difference of the samples modulo 2^64 (R149). -/
theorem toNat_sub_cycle (c d : Cycle) : (c - d).toNat = (c.toNat + 2 ^ 64 - d.toNat) % 2 ^ 64 := by
  rw [BitVec.toNat_sub]
  have hd := d.isLt
  congr 1
  omega

theorem hCount_eq {s : State} (hcycles : 0 < s.params.cyclesPerLine) :
    s.hCount = hEntry s.params.hcCeiling s.params.hcRestart
      (((s.inputs.cycle.toNat + 2 ^ 64 - s.lineStartCycles.toNat) % 2 ^ 64) % s.params.cyclesPerLine) := by
  rw [State.hCount, getElem?_hTable _ (Nat.mod_lt _ hcycles), toNat_sub_cycle]
  rfl

/-! ## Reading after writing (20_memory R61, R62) -/

theorem reg_setReg (s : State) (r : BitVec 4) (v : Byte) (j : Fin 16) :
    (s.setReg r v).reg j = if j.val = r.toNat then v else s.reg j := by
  simp [State.reg, Vector.getElem_set, eq_comm]

theorem vramByte_setVram {s : State} (h : s.vram.wf = true) (a b : Nat) (v : Byte) :
    (s.setVram a v).vramByte b = if b % 0x4000 = a % 0x4000 then v else s.vramByte b :=
  Memory.read_write h _ _ v

theorem cramByte_setCram {s : State} (h : s.cram.wf = true) (a b : Nat) (v : Byte) :
    (s.setCram a v).cramByte b = if b % s.cramSize = a % s.cramSize then v else s.cramByte b :=
  Memory.read_write h _ _ v

/-- An address operand has 14 bits, so VRAM does not wrap it. -/
theorem toNat_mod_vramSize (a : BitVec 14) : a.toNat % 0x4000 = a.toNat := Nat.mod_eq_of_lt a.isLt

/-- A byte is zero-extended in RD. -/
theorem toNat_setWidth_byte (v : Byte) : (v.setWidth 32).toNat = v.toNat := BitVec.toNat_setWidth_of_le (by decide)

/-! ## The frame reads (30_encoding R98, 40_host_ops R122) -/

theorem framePixel_outside {s : State} {x y : Nat} (h : s.frame.width ≤ x ∨ s.frame.height ≤ y) : s.framePixel x y = 0 :=
  if_neg (by omega)

theorem framePixel_inside {s : State} {x y : Nat} (hx : x < s.frame.width) (hy : y < s.frame.height) :
    s.framePixel x y = s.frame.image.pixel y x := if_pos ⟨hx, hy⟩

theorem pixel_assembled {rows : List (List Colour)} {row : List Colour} {c : Colour} {y x : Nat}
    (hrow : rows[y]? = some row) (hc : row[x]? = some c) : (FrameImage.assembled rows).pixel y x = c := by
  simp [FrameImage.pixel, hrow, hc]

/-- Two half words do not overlap in the word `FW << 16 | FH`. -/
theorem toNat_halves {hi lo : Nat} (hhi : hi < 0x10000) (hlo : lo < 0x10000) :
    (BitVec.ofNat 32 ((hi <<< 16) ||| lo)).toNat = hi * 0x10000 + lo := by
  have hfits : hi * 0x10000 + lo < 2 ^ 32 := by omega
  rw [← Nat.shiftLeft_add_eq_or_of_lt hlo hi, Nat.shiftLeft_eq, BitVec.toNat_ofNat]
  exact Nat.mod_eq_of_lt hfits

/-! ## The step, by the input it takes (R110, 60_exceptions R320) -/

section
variable {s : State} {rest : List HostInput}

theorem step_of_pending_nil (h : s.inputs.pending = []) : step s = .next s.idle := by
  rw [step, h]

theorem step_of_pending_configure {cfg : HostConfig} (h : s.inputs.pending = .configure cfg :: rest) :
    step s = .next (s.configure cfg rest) := by
  rw [step, h]

theorem step_of_pending_command {w : Word} {c : Cycle} (h : s.inputs.pending = .command w c :: rest)
    (hfault : s.fault = none) : step s = exec (decodeCommand w) (s.present c rest) := by
  rw [step, h]
  exact if_neg (by simp [State.faulted, hfault])

theorem step_of_pending_command_faulted {w : Word} {c : Cycle} (h : s.inputs.pending = .command w c :: rest)
    (hfault : s.fault ≠ none) : step s = .next (s.present c rest).refuseCommand := by
  rw [step, h]
  exact if_pos (Option.isSome_iff_ne_none.mpr hfault)

end

/-- A Faulted block stays so, with the same reason, until a reset. -/
theorem step_fault_of_faulted {s t : State} (hfault : s.fault ≠ none) (h : step s = .next t) :
    t.fault = s.fault ∨ ∃ c rest, s.inputs.pending = .reset c :: rest := by
  cases hp : s.inputs.pending with
  | nil =>
    obtain rfl := Host.Outcome.next.inj ((step_of_pending_nil hp).symm.trans h)
    exact .inl rfl
  | cons input rest =>
    cases input with
    | command w c =>
      obtain rfl := Host.Outcome.next.inj ((step_of_pending_command_faulted hp hfault).symm.trans h)
      exact .inl rfl
    | configure cfg =>
      obtain rfl := Host.Outcome.next.inj ((step_of_pending_configure hp).symm.trans h)
      exact .inl rfl
    | reset c => exact .inr ⟨c, rest, rfl⟩

/-! ## The outputs (R125) -/

theorem lineStep_rd (s : State) : s.lineStep.outputs.rd = 0 := by
  have hphases : (s.answer 0).linePhases.outputs.rd = 0 := by
    rw [linePhases_frame]
    rfl
  have hadvance : (endState (s.answer 0).linePhases.advanceRegion).outputs.rd = 0 :=
    advanceRegion_keeps (P := fun u => u.outputs.rd = 0) (fun _ _ _ h => h) (fun _ _ h => h) (fun _ _ h => h) hphases
  unfold State.lineStep
  cases h : (s.answer 0).linePhases.advanceRegion with rw [h] at hadvance
  | error f => exact hadvance
  | ok t => exact hadvance

/-- The renderer selections are no commands. -/
theorem rendererOf_decodeCommand (w : Word) : rendererOf (decodeCommand w) = none := by
  unfold decodeCommand
  split <;> rfl

/-- Every command writes the outputs, and none reads those it finds. -/
theorem exec_outputs {i : Instr} (hi : rendererOf i = none) (s : State) (o : Outputs) :
    exec i { s with outputs := o } = exec i s := by
  cases i
  case mode4 | graphics1 | graphics2 | multicolour | text | fallback3 | fallback5 | fallback6 | fallback7 =>
    exact absurd hi (Option.some_ne_none _)
  all_goals rfl

/-! ## The obligations -/

/-- Settles O11: the one cell that VRAMWR writes is at its own address, which VRAM does not wrap. -/
theorem vramwrStoresTheByte : Obligations.VramwrStoresTheByte := by
  intro s a v hwf
  refine ⟨_, exec_of_effect (.vramwr a v), rfl, fun b => ?_⟩
  exact (vramByte_setVram hwf a.toNat b v).trans (by rw [toNat_mod_vramSize])

/-- Settles O12: the one cell that CRAMWR writes is at its address modulo CRAM_SIZE. -/
theorem cramwrStoresTheByte : Obligations.CramwrStoresTheByte := fun _ a v hwf =>
  ⟨_, exec_of_effect (.cramwr a v), rfl, fun b => cramByte_setCram hwf a.toNat b v⟩

/-- Settles O16: VCNTRD is a read of VTable, whose entries are in closed form. -/
theorem verticalCounterOfTheLine : Obligations.VerticalCounterOfTheLine := fun s hjump hsd =>
  ⟨s.answer (s.vCount.setWidth 32), exec_of_readWord rfl, rfl,
    (toNat_setWidth_byte _).trans (toNat_vCount hjump hsd)⟩

/-- Settles O17: HCNTRD is a read of HTable at the elapsed cycles. -/
theorem horizontalCounterOfTheCycle : Obligations.HorizontalCounterOfTheCycle := by
  intro s hcycles
  refine ⟨s.answer (s.hCount.setWidth 32), exec_of_readWord rfl, rfl, (toNat_setWidth_byte _).trans ?_⟩
  rw [hCount_eq hcycles]
  exact BitVec.toNat_ofNat _ _

/-- Settles O19: FRAMERD reads the image inside the frame and answers 0 outside it; the dimensions fill a half word each. -/
theorem frameReadsAnswerPixelAndSize : Obligations.FrameReadsAnswerPixelAndSize := by
  refine ⟨fun s x y => ⟨s.answer (s.framePixel x.toNat y.toNat), exec_of_readWord rfl, rfl, framePixel_outside,
    fun hx hy => ⟨fun rows row c himage hrow hc => ?_, fun n himage => ?_⟩⟩,
    fun s hwidth hheight => ⟨_, exec_of_readWord (i := .framedim) rfl, rfl, ?_⟩⟩
  · exact (framePixel_inside hx hy).trans (himage ▸ pixel_assembled hrow hc)
  · exact (framePixel_inside hx hy).trans (himage ▸ rfl)
  · rw [answer_outputs, toNat_halves hwidth hheight]
    omega

/-- Settles O6: a command runs on the state that has taken it or is refused, and only reset ends a fault. -/
theorem stepRunsThePresentedCommand : Obligations.StepRunsThePresentedCommand := by
  refine ⟨fun s t hfault h hne => (step_fault_of_faulted hfault h).resolve_left hne,
    fun s w c rest i hpending hi => ?_⟩
  obtain rfl := Except.ok.inj hi
  exact ⟨step_of_pending_command hpending, step_of_pending_command_faulted hpending⟩

/-- Settles O10: REGWR sets one register. -/
theorem regwrStoresTheByte : Obligations.RegwrStoresTheByte := fun s r v =>
  ⟨_, exec_of_effect (.regwr r v), rfl, reg_setReg s r v⟩

/-- Settles O13: both commands are reads of one byte, and VRAM does not wrap a 14-bit address. -/
theorem memoryReadsAnswerTheByte : Obligations.MemoryReadsAnswerTheByte := by
  refine fun s a => ⟨⟨s.answer _, exec_of_readWord (i := .vramrd a) rfl, rfl, ?_⟩,
    ⟨s.answer _, exec_of_readWord (i := .cramrd a) rfl, rfl, toNat_setWidth_byte _⟩⟩
  rw [answer_outputs, toNat_setWidth_byte, State.vramByte, toNat_mod_vramSize]

/-- Settles O21: the ports, FLAGCLR and the illegal OPs answer 0 last, and a line step answers 0 first and keeps it. -/
theorem commandsWithoutResultAnswerZero : Obligations.CommandsWithoutResultAnswerZero := by
  refine ⟨fun s i hi => ?_, fun s w c rest hpending hfault => ⟨_, step_of_pending_command_faulted hpending hfault, rfl⟩,
    fun s w o => exec_outputs (rendererOf_decodeCommand w) s o, fun s => ⟨_, exec_of_readWord (i := .nop) rfl, rfl⟩⟩
  obtain rfl | ⟨r, v, rfl⟩ | ⟨a, v, rfl⟩ | ⟨a, v, rfl⟩ | ⟨m, rfl⟩ | rfl | rfl | rfl := hi
  · exact ⟨_, exec_of_readWord rfl, rfl⟩
  · exact ⟨_, exec_of_effect (.regwr r v), rfl⟩
  · exact ⟨_, exec_of_effect (.vramwr a v), rfl⟩
  · exact ⟨_, exec_of_effect (.cramwr a v), rfl⟩
  · exact ⟨_, exec_of_effect (.flagclr m), rfl⟩
  · exact ⟨_, exec_of_effect .line, lineStep_rd s⟩
  · exact ⟨_, exec_of_effect .illegalE, rfl⟩
  · exact ⟨_, exec_of_effect .illegalF, rfl⟩

end Machine

end Sys2Proof
end

section
/-! Proofs of the counter-table family (41_counter_tables). First the length of the vertical table and its entries up to
the threshold, for any parameters; then the spec's defaults; then the obligation. -/

namespace Sys2Proof

@[simp] theorem length_buildV (threshold jump rows v : Nat) : (buildV threshold jump rows v).length = rows := by
  induction rows generalizing v with
  | zero => rfl
  | succ rows ih => exact congrArg (· + 1) (ih _)

/-- Up to the threshold no jump has been taken, so the entries do not depend on where it goes. -/
theorem getElem?_buildV_upTo {threshold v n : Nat} (hn : v + n ≤ threshold) (jump : Nat) {rows : Nat} (hrows : n < rows) :
    (buildV threshold jump rows v)[n]? = some (BitVec.ofNat 8 (v + n)) := by
  induction n generalizing v rows with
  | zero =>
    obtain ⟨rows, rfl⟩ := Nat.exists_eq_add_one.mpr hrows
    rfl
  | succ n ih =>
    obtain ⟨rows, rfl⟩ := Nat.exists_eq_add_one.mpr (Nat.zero_lt_of_lt hrows)
    have hne : v ≠ threshold := by omega
    rw [buildV, if_neg hne, List.getElem?_cons_succ, ih (by omega) (by omega), Nat.add_right_comm v 1 n, Nat.add_assoc]

theorem length_vTable (p : Params) (sys : TvSystem) (h : Height) : (vTable p sys h).length = linesPerFrame sys :=
  length_buildV _ _ _ _

theorem getElem?_vTable_upTo {p : Params} {sys : TvSystem} {h : Height} {row : Nat} (hrow : row < linesPerFrame sys)
    (hle : row ≤ p.vcThreshold.get sys h) :
    (vTable p sys h)[row]? = some (BitVec.ofNat 8 row) := by
  rw [vTable, getElem?_buildV_upTo (by rwa [Nat.zero_add]) _ hrow, Nat.zero_add]

/-- The frame interrupt comes inside the frame, whatever the system (42_beam R163). -/
theorem frameIntLine_lt_linesPerFrame (sys : TvSystem) (h : Height) : frameIntLine h < linesPerFrame sys := by
  cases sys <;> cases h <;> decide

/-- The spec's thresholds (R144) stand behind the frame-interrupt line of their profile. -/
theorem frameIntLine_le_vcThreshold_default (sys : TvSystem) (h : Height) :
    frameIntLine h ≤ Params.default.vcThreshold.get sys h := by
  cases sys <;> cases h <;> decide

/-- The spec's defaults are permitted values: R142 and the other conditions, evaluated on the constants. -/
theorem wellFormed_default : Params.default.wellFormed = true := by decide

/-- Settles O51: the vertical table counts lines up to its threshold, and the frame-interrupt line stands before that. -/
theorem counterTablesFitTheFrame : Obligations.CounterTablesFitTheFrame := by
  refine ⟨wellFormed_default, fun p sys h => ⟨length_vTable p sys h, fun row hrow hle _ => getElem?_vTable_upTo hrow hle⟩,
    fun sys h => ?_⟩
  have hline := frameIntLine_lt_linesPerFrame sys h
  exact ⟨getElem?_vTable_upTo hline (frameIntLine_le_vcThreshold_default sys h), hline⟩

end Sys2Proof
end

section
/-! Proofs of the beam-and-frame family (42_beam). First the permitted parameters and the order of the regions; then what
the region advance does inside a frame and at its end, and each phase of the line step; then the invariant; then the
obligations. -/

namespace Sys2Proof

/-! ## The permitted parameters (41_counter_tables R142) -/

section
variable {p : Params} (hp : p.wellFormed = true)
include hp

theorem regionLenOk_of_wellFormed (sys : TvSystem) (h : Height) : regionLenOk p sys h = true := by
  have hmem : (sys, h) ∈ profiles := by cases sys <;> cases h <;> decide
  simp only [Params.wellFormed, Bool.and_eq_true, List.all_eq_true] at hp
  obtain ⟨⟨⟨⟨⟨⟨⟨hlens, -⟩, -⟩, -⟩, -⟩, -⟩, -⟩, -⟩ := hp
  exact hlens (sys, h) hmem

theorem regionLen_activeDisplay (sys : TvSystem) (h : Height) : (p.regionLen.get sys h).activeDisplay = h.toNat := by
  have hok := regionLenOk_of_wellFormed hp sys h
  simp only [regionLenOk, Bool.and_eq_true, beq_iff_eq] at hok
  obtain ⟨⟨hactive, -⟩, -⟩ := hok
  exact hactive

theorem regionLen_sum (sys : TvSystem) (h : Height) : (p.regionLen.get sys h).sum = linesPerFrame sys := by
  have hok := regionLenOk_of_wellFormed hp sys h
  simp only [regionLenOk, Bool.and_eq_true, beq_iff_eq] at hok
  obtain ⟨⟨-, hsum⟩, -⟩ := hok
  exact hsum

/-- The power-up memories are canonical and inside their address spaces (20_memory R60). -/
theorem initMemory_of_wellFormed :
    p.initVram.wf = true ∧ p.initVram.within 0x4000 = true ∧ p.initCram.wf = true ∧
      p.initCram.within p.cramFormat.size = true := by
  simp only [Params.wellFormed, Bool.and_eq_true] at hp
  obtain ⟨⟨⟨⟨-, hvram⟩, hvramIn⟩, hcram⟩, hcramIn⟩ := hp
  exact ⟨hvram, hvramIn, hcram, hcramIn⟩

end

theorem Height.toNat_pos (h : Height) : 0 < h.toNat := by
  cases h <;> decide

/-! ## The order of the regions (42_beam R173) -/

/-- How many regions end before the beam is in ActiveDisplay again. -/
def Region.toFrameEnd : Region → Nat
  | .activeDisplay => 6
  | .bottomBorder => 5
  | .bottomBlanking => 4
  | .verticalBlanking => 3
  | .topBlanking => 2
  | .topBorder => 1

theorem Region.toFrameEnd_bounds (r : Region) : 1 ≤ r.toFrameEnd ∧ r.toFrameEnd ≤ 6 := by
  cases r <;> decide

theorem Region.toFrameEnd_next {r : Region} (h : r ≠ .topBorder) : r.toFrameEnd = r.next.toFrameEnd + 1 := by
  revert h
  cases r <;> decide

theorem Region.next_ne_activeDisplay {r : Region} (h : r ≠ .topBorder) : r.next ≠ .activeDisplay := by
  revert h
  cases r <;> decide

namespace RegionLens
variable (l : RegionLens)

/-- The next region begins where this one ends. -/
theorem startOf_next {r : Region} (h : r ≠ .topBorder) : l.startOf r.next = l.startOf r + l.get r := by
  cases r with
  | topBorder => exact absurd rfl h
  | activeDisplay => exact (Nat.zero_add _).symm
  | bottomBorder | bottomBlanking | verticalBlanking | topBlanking => rfl

/-- TopBorder, the last region, ends with the frame. -/
theorem startOf_add_get_topBorder : l.startOf .topBorder + l.get .topBorder = l.sum := rfl

theorem startOf_add_get_le_sum (r : Region) : l.startOf r + l.get r ≤ l.sum := by
  cases r <;> simp only [startOf, get, sum] <;> omega

theorem activeDisplay_le_startOf {r : Region} (h : r ≠ .activeDisplay) : l.activeDisplay ≤ l.startOf r := by
  cases r with
  | activeDisplay => exact absurd rfl h
  | bottomBorder => exact Nat.le_refl _
  | bottomBlanking | verticalBlanking | topBlanking | topBorder => simp only [startOf]; omega

end RegionLens

namespace Machine

/-! ## The beam inside its region (42_beam R175) -/

/-- SD has been counted, and the region of the line before it may just have ended: RegionRemaining may be 0. -/
structure BeamCounted (s : State) : Prop where
  remaining : s.beam.remaining ≤ s.lens.get s.beam.region
  line      : s.beam.sd + s.beam.remaining = s.lens.startOf s.beam.region + s.lens.get s.beam.region

theorem beamOk_iff {s : State} : s.beamOk = true ↔ 1 ≤ s.beam.remaining ∧ BeamCounted s := by
  simp only [State.beamOk, Bool.and_eq_true, decide_eq_true_eq, and_assoc]
  exact and_congr_right fun _ => ⟨fun ⟨hle, hline⟩ => ⟨hle, hline⟩, fun ⟨hle, hline⟩ => ⟨hle, hline⟩⟩

/-- A region just loaded is counted when its first line is SD. -/
theorem BeamCounted.of_loaded {s : State} (hremaining : s.beam.remaining = s.lens.get s.beam.region)
    (hsd : s.beam.sd = s.lens.startOf s.beam.region) : BeamCounted s :=
  ⟨hremaining.le, by rw [hremaining, hsd]⟩

section
variable {s : State} (hp : s.params.wellFormed = true)
include hp

theorem lens_activeDisplay : s.lens.activeDisplay = s.latched.h.toNat := regionLen_activeDisplay hp _ _

theorem lens_sum : s.lens.sum = s.frameLines := regionLen_sum hp _ _

/-- The beam at the start of a frame stands inside ActiveDisplay. -/
theorem beamOk_of_frameStart (hbeam : s.beam = ⟨.activeDisplay, s.latched.h.toNat, 0⟩) : s.beamOk = true := by
  rw [← lens_activeDisplay hp] at hbeam
  have hcount : BeamCounted s := .of_loaded (by rw [hbeam]; rfl) (by rw [hbeam]; rfl)
  have hpos := s.latched.h.toNat_pos
  refine beamOk_iff.mpr ⟨?_, hcount⟩
  rwa [hbeam, lens_activeDisplay hp]

/-- The beam is in ActiveDisplay exactly on the first H lines. -/
theorem region_eq_activeDisplay_iff (hok : s.beamOk = true) :
    s.beam.region = .activeDisplay ↔ s.beam.sd < s.latched.h.toNat := by
  obtain ⟨hpos, hle, hline⟩ := beamOk_iff.mp hok
  rw [← lens_activeDisplay hp]
  constructor
  · intro hr
    simp only [hr, RegionLens.startOf, RegionLens.get] at hline
    omega
  · intro hsd
    by_contra hr
    have hstart := s.lens.activeDisplay_le_startOf hr
    omega

end

/-! ## The region advance (42_beam R173, R174) -/

/-- The counted beam in the region it passes to, when the current one has ended. -/
theorem BeamCounted.next {s : State} (hcount : BeamCounted s) (hzero : s.beam.remaining = 0)
    (hr : s.beam.region ≠ .topBorder) : BeamCounted s.toNextRegion.loadRegion := by
  have hline := hcount.line
  have hstart := s.lens.startOf_next hr
  exact .of_loaded rfl (show s.beam.sd = s.lens.startOf s.beam.region.next by omega)

theorem passRegions_succ {fuel : Nat} {s t : State} (hzero : s.beam.remaining = 0) (h : s.enterNext = .ok t) :
    State.passRegions (fuel + 1) s = State.passRegions fuel t := by
  rw [State.passRegions, if_pos hzero, h]

/-- Before the end of the frame the region loop stops inside a region, and changes nothing but the beam: it stays in a
region that has not ended, and else loads a later one. -/
theorem passRegions_insideFrame {fuel : Nat} {s : State} (hfuel : s.beam.region.toFrameEnd ≤ fuel)
    (hcount : BeamCounted s) (hsd : s.beam.sd < s.lens.sum) :
    ∃ beam, State.passRegions fuel s = .ok { s with beam := beam } ∧ beam.sd = s.beam.sd ∧
      State.beamOk { s with beam := beam } = true ∧ (s.beam.remaining ≠ 0 → beam = s.beam) ∧
      (s.beam.remaining = 0 → beam.region.toFrameEnd < s.beam.region.toFrameEnd ∧
        beam.remaining = s.lens.get beam.region) := by
  induction fuel generalizing s with
  | zero =>
    have hpos := s.beam.region.toFrameEnd_bounds
    omega
  | succ fuel ih =>
    by_cases hzero : s.beam.remaining = 0
    · have hr : s.beam.region ≠ .topBorder := by
        intro htop
        have hline := hcount.line
        rw [htop, s.lens.startOf_add_get_topBorder] at hline
        omega
      have hrank := Region.toFrameEnd_next hr
      obtain ⟨beam, hpass, hbeamSd, hok, hstay, hmove⟩ := ih (s := s.toNextRegion.loadRegion)
        (show s.beam.region.next.toFrameEnd ≤ fuel by omega) (hcount.next hzero hr) hsd
      refine ⟨beam, ?_, hbeamSd, hok, absurd hzero, fun _ => ?_⟩
      · rw [passRegions_succ hzero (enterNext_loadRegion (Region.next_ne_activeDisplay hr)), hpass]
        rfl
      · by_cases hempty : s.toNextRegion.loadRegion.beam.remaining = 0
        · obtain ⟨hlater, hloaded⟩ := hmove hempty
          exact ⟨hlater.trans (show s.beam.region.next.toFrameEnd < _ by omega), hloaded⟩
        · rw [hstay hempty]
          exact ⟨show s.beam.region.next.toFrameEnd < _ by omega, rfl⟩
    · exact ⟨s.beam, passRegions_remaining _ s hzero, rfl, beamOk_iff.mpr ⟨Nat.pos_of_ne_zero hzero, hcount⟩,
        fun _ => rfl, fun h => absurd h hzero⟩

/-- BeginFrame and the load after it put the beam on the first line of the height latched (R161, R173). -/
theorem latchFrame_loadRegion_beam {s : State} (hp : s.params.wellFormed = true)
    (hr : s.beam.region = .activeDisplay) (sys : TvSystem) :
    (s.latchFrame sys).loadRegion.beam = ⟨.activeDisplay, s.inputs.cfg.verticalResolution.toNat, 0⟩ := by
  rw [← regionLen_activeDisplay hp sys, loadRegion_beam, show (s.latchFrame sys).beam.region = _ from hr]
  rfl

/-- So the beam stands inside its region there. -/
theorem beamOk_latchFrame_loadRegion {s : State} (hp : s.params.wellFormed = true)
    (hr : s.beam.region = .activeDisplay) (sys : TvSystem) : (s.latchFrame sys).loadRegion.beamOk = true :=
  beamOk_of_frameStart (s := (s.latchFrame sys).loadRegion) hp (latchFrame_loadRegion_beam hp hr sys)

/-- At the end of the frame the region loop passes the empty regions that are left and enters ActiveDisplay from
TopBorder. -/
theorem passRegions_frameEnd {fuel : Nat} {s : State} (hp : s.params.wellFormed = true)
    (hfuel : s.beam.region.toFrameEnd ≤ fuel) (hcount : BeamCounted s) (hsd : s.beam.sd = s.lens.sum) :
    State.passRegions fuel s = State.enterNext { s with beam := ⟨.topBorder, 0, s.beam.sd⟩ } := by
  induction fuel generalizing s with
  | zero =>
    have hpos := s.beam.region.toFrameEnd_bounds
    omega
  | succ fuel ih =>
    have hline := hcount.line
    have hend := s.lens.startOf_add_get_le_sum s.beam.region
    have hzero : s.beam.remaining = 0 := by omega
    by_cases htop : s.beam.region = .topBorder
    · have hs : ({ s with beam := ⟨.topBorder, 0, s.beam.sd⟩ } : State) = s := by
        rw [← htop, ← hzero]
      rw [hs]
      obtain ⟨hr, sys, -, h⟩ | ⟨-, -, h⟩ | ⟨hr, -⟩ := enterNext_cases s
      · rw [passRegions_succ hzero h, h]
        have hok := beamOk_latchFrame_loadRegion (s := s.toNextRegion) hp hr sys
        exact passRegions_remaining _ _ (Nat.ne_of_gt (beamOk_iff.mp hok).left)
      · rw [State.passRegions, if_pos hzero, h]
      · exact absurd (by rw [htop]; rfl) hr
    · have hrank := Region.toFrameEnd_next htop
      rw [passRegions_succ hzero (enterNext_loadRegion (Region.next_ne_activeDisplay htop))]
      exact ih (s := s.toNextRegion.loadRegion) hp (show s.beam.region.next.toFrameEnd ≤ fuel by omega)
        (hcount.next hzero htop) hsd

/-! ## The line step and the position in the frame (42_beam R165, R166) -/

section
variable (s : State)

@[simp] theorem linePhases_params : s.linePhases.params = s.params := by rw [linePhases_frame]
@[simp] theorem linePhases_inputs : s.linePhases.inputs = s.inputs := by rw [linePhases_frame]
@[simp] theorem linePhases_regs : s.linePhases.regs = s.regs := by rw [linePhases_frame]
@[simp] theorem linePhases_beam : s.linePhases.beam = { s.beam with sd := s.beam.sd + 1 } := by rw [linePhases_frame]
@[simp] theorem linePhases_latched : s.linePhases.latched = s.latched := by rw [linePhases_frame]
@[simp] theorem linePhases_fault : s.linePhases.fault = s.fault := by rw [linePhases_frame]
@[simp] theorem linePhases_outputs : s.linePhases.outputs = s.outputs := by rw [linePhases_frame]

end

/-- The state that the region loop of a line step begins with: the phases have run, and the line is counted down. -/
def State.countedDown (s : State) : State :=
  { (s.answer 0).linePhases with beam := ⟨s.beam.region, s.beam.remaining - 1, s.beam.sd + 1⟩ }

theorem advanceRegion_linePhases (s : State) :
    (s.answer 0).linePhases.advanceRegion = State.passRegions 6 s.countedDown := by
  rw [State.advanceRegion, linePhases_beam]
  rfl

@[simp] theorem countedDown_lens (s : State) : s.countedDown.lens = s.lens := by
  simp [State.lens, State.countedDown]

/-- The state in which a line step runs BeginFrame: the phases of the last line have run, and the beam has passed the
regions that were left. -/
def State.frameDone (s : State) : State :=
  { (s.answer 0).linePhases with beam := ⟨.activeDisplay, 0, s.beam.sd + 1⟩ }

@[simp] theorem frameDone_params (s : State) : s.frameDone.params = s.params := linePhases_params _

@[simp] theorem frameDone_inputs (s : State) : s.frameDone.inputs = s.inputs := linePhases_inputs _

@[simp] theorem frameDone_regs (s : State) : s.frameDone.regs = s.regs := linePhases_regs _

@[simp] theorem frameDone_fault (s : State) : s.frameDone.fault = s.fault := linePhases_fault _

@[simp] theorem frameDone_outputs (s : State) : s.frameDone.outputs = ⟨0, false⟩ := linePhases_outputs _

section
variable {s : State}

theorem lineStep_of_advance_ok {t : State} (h : (s.answer 0).linePhases.advanceRegion = .ok t) :
    s.lineStep = t.pulse := by
  rw [State.lineStep, h]

theorem lineStep_of_advance_error {f : State} (h : (s.answer 0).linePhases.advanceRegion = .error f) :
    s.lineStep = f := by
  rw [State.lineStep, h]

theorem beamCounted_countedDown (hok : s.beamOk = true) : BeamCounted s.countedDown := by
  obtain ⟨hpos, hle, hline⟩ := beamOk_iff.mp hok
  constructor
  · rw [countedDown_lens]
    exact (Nat.sub_le _ _).trans hle
  · rw [countedDown_lens]
    show s.beam.sd + 1 + (s.beam.remaining - 1) = s.lens.startOf s.beam.region + s.lens.get s.beam.region
    omega

variable (hp : s.params.wellFormed = true) (hok : s.beamOk = true)
include hp hok

/-- Before the last line of the frame a line step counts one line and moves the beam inside its region or to a later one. -/
theorem lineStep_insideFrame (hsd : s.beam.sd + 1 < s.frameLines) :
    ∃ beam, s.lineStep = State.pulse { s.countedDown with beam := beam } ∧ s.lineStep.beamOk = true ∧
      beam.sd = s.beam.sd + 1 ∧
      (1 < s.beam.remaining → beam = ⟨s.beam.region, s.beam.remaining - 1, s.beam.sd + 1⟩) ∧
      (s.beam.remaining = 1 → beam.region ≠ s.beam.region ∧ beam.remaining = s.lens.get beam.region) := by
  rw [← lens_sum hp] at hsd
  obtain ⟨beam, hpass, hbeamSd, hbeamOk, hstay, hmove⟩ := passRegions_insideFrame
    (Region.toFrameEnd_bounds _).right (beamCounted_countedDown hok) (by rw [countedDown_lens]; exact hsd)
  have hline := lineStep_of_advance_ok ((advanceRegion_linePhases s).trans hpass)
  refine ⟨beam, hline, by rw [hline]; exact hbeamOk, hbeamSd,
    fun h => hstay (show s.beam.remaining - 1 ≠ 0 by omega), fun h => ?_⟩
  obtain ⟨hlater, hloaded⟩ := hmove (show s.beam.remaining - 1 = 0 by omega)
  refine ⟨fun hr => ?_, by rw [hloaded, countedDown_lens]⟩
  rw [hr] at hlater
  exact absurd hlater (Nat.lt_irrefl _)

/-- After the last line of the frame the region advance ends in BeginFrame (R173, R174). -/
theorem advanceRegion_frameEnd (hsd : s.beam.sd + 1 = s.frameLines) :
    (s.answer 0).linePhases.advanceRegion =
      match s.frameDone.beginFrame with
      | .error r => .error (s.frameDone.raiseFault r)
      | .ok t => .ok t.loadRegion := by
  rw [← lens_sum hp] at hsd
  rw [advanceRegion_linePhases, passRegions_frameEnd (by simpa [State.countedDown] using hp)
    (Region.toFrameEnd_bounds _).right (beamCounted_countedDown hok) (by rw [countedDown_lens]; exact hsd),
    enterNext_beginFrame rfl]
  rfl

/-- The line step of the last line begins a frame with the valid video system that stands at the inputs. -/
theorem lineStep_beginsFrame (hsd : s.beam.sd + 1 = s.frameLines) (hvalid : s.inputs.cfg.videoSystem ≠ .invalid) :
    ∃ sys, (sys = .pal ↔ s.inputs.cfg.videoSystem = .pal) ∧
      s.lineStep = (s.frameDone.latchFrame sys).loadRegion.pulse := by
  have hadvance := advanceRegion_frameEnd hp hok hsd
  obtain ⟨sys, hbegin, hsys⟩ | ⟨hinvalid, -⟩ := beginFrame_cases s.frameDone
  · rw [hbegin] at hadvance
    rw [frameDone_inputs] at hsys
    refine ⟨sys, ?_, lineStep_of_advance_ok hadvance⟩
    obtain ⟨hv, rfl⟩ | ⟨hv, rfl⟩ := hsys <;> simp [hv]
  · exact absurd (frameDone_inputs s ▸ hinvalid) hvalid

/-- With an invalid video system BeginFrame stops the line step of the last line (60_exceptions R322). -/
theorem lineStep_configInvalid (hsd : s.beam.sd + 1 = s.frameLines) (hinvalid : s.inputs.cfg.videoSystem = .invalid) :
    s.lineStep = s.frameDone.raiseFault .configInvalid := by
  have hadvance := advanceRegion_frameEnd hp hok hsd
  rw [State.beginFrame, frameDone_inputs, hinvalid] at hadvance
  exact lineStep_of_advance_error hadvance

end

/-! ## The interrupt flags in the line step (42_beam R168 to R171) -/

@[simp] theorem afterSprites_framePending (f : Flags) (collision : Bool) (overflow : Option Nat) :
    (f.afterSprites collision overflow).framePending = f.framePending := by
  cases overflow <;> rfl

@[simp] theorem afterSprites_linePending (f : Flags) (collision : Bool) (overflow : Option Nat) :
    (f.afterSprites collision overflow).linePending = f.linePending := by
  cases overflow <;> rfl

/-- Rendering sets neither interrupt flag. -/
theorem renderLineWith_interrupts (s : State) (rr : Renderer) (y : Nat) :
    (s.renderLineWith rr y).flags.framePending = s.flags.framePending ∧
    (s.renderLineWith rr y).flags.linePending = s.flags.linePending := by
  unfold State.renderLineWith
  split
  · exact ⟨afterSprites_framePending _ _ _, afterSprites_linePending _ _ _⟩
  · exact ⟨rfl, rfl⟩

theorem renderPhase_interrupts (s : State) :
    s.renderPhase.flags.framePending = s.flags.framePending ∧ s.renderPhase.flags.linePending = s.flags.linePending := by
  unfold State.renderPhase
  split
  · obtain ⟨rr, -, h⟩ := renderLine_eq s
    rw [h]
    exact renderLineWith_interrupts s rr s.beam.sd
  · exact ⟨rfl, rfl⟩

/-- The line step before its interrupts: line SD is rendered and counted (R165, R166). -/
def State.lineCounted (s : State) : State := (s.answer 0).sampleCycle.renderPhase.countLine

theorem linePhases_eq_lineCounted (s : State) :
    (s.answer 0).linePhases = s.lineCounted.framePhase.lineInterrupt := rfl

theorem lineCounted_frame (s : State) :
    s.lineCounted =
      { s.answer 0 with
        pb := s.lineCounted.pb
        beam := { s.beam with sd := s.beam.sd + 1 }
        lineStartCycles := s.inputs.cycle
        cachedBackdrop := s.lineCounted.cachedBackdrop
        flags :=
          { s.lineCounted.flags with framePending := s.flags.framePending, linePending := s.flags.linePending }
        scratch := s.lineCounted.scratch } := by
  obtain ⟨hframe, hline⟩ := renderPhase_interrupts (s.answer 0).sampleCycle
  have hflags : s.lineCounted.flags =
      { s.lineCounted.flags with framePending := s.flags.framePending, linePending := s.flags.linePending } := by
    rw [← show s.lineCounted.flags.framePending = s.flags.framePending from hframe,
      ← show s.lineCounted.flags.linePending = s.flags.linePending from hline]
  rw [← hflags]
  unfold State.lineCounted
  rw [renderPhase_frame]
  rfl

section
variable (s : State)

@[simp] theorem lineCounted_params : s.lineCounted.params = s.params := by rw [lineCounted_frame]; rfl
@[simp] theorem lineCounted_inputs : s.lineCounted.inputs = s.inputs := by rw [lineCounted_frame]; rfl
@[simp] theorem lineCounted_latched : s.lineCounted.latched = s.latched := by rw [lineCounted_frame]; rfl
@[simp] theorem lineCounted_lineCounter : s.lineCounted.lineCounter = s.lineCounter := by rw [lineCounted_frame]; rfl
@[simp] theorem lineCounted_frameBuffer : s.lineCounted.frame = s.frame := by rw [lineCounted_frame]; rfl
@[simp] theorem lineCounted_regNat (i : Fin 16) : s.lineCounted.regNat i = s.regNat i := by rw [lineCounted_frame]; rfl
@[simp] theorem lineCounted_beam : s.lineCounted.beam = { s.beam with sd := s.beam.sd + 1 } := by rw [lineCounted_frame]
@[simp] theorem lineCounted_framePending : s.lineCounted.flags.framePending = s.flags.framePending := by
  rw [lineCounted_frame]
@[simp] theorem lineCounted_linePending : s.lineCounted.flags.linePending = s.flags.linePending := by rw [lineCounted_frame]

@[simp] theorem framePhase_params : s.framePhase.params = s.params := by rw [framePhase_frame]
@[simp] theorem framePhase_inputs : s.framePhase.inputs = s.inputs := by rw [framePhase_frame]
@[simp] theorem framePhase_beam : s.framePhase.beam = s.beam := by rw [framePhase_frame]
@[simp] theorem framePhase_latched : s.framePhase.latched = s.latched := by rw [framePhase_frame]
@[simp] theorem framePhase_lineCounter : s.framePhase.lineCounter = s.lineCounter := by rw [framePhase_frame]
@[simp] theorem framePhase_regNat (i : Fin 16) : s.framePhase.regNat i = s.regNat i := by rw [framePhase_frame]; rfl
@[simp] theorem framePhase_linePending : s.framePhase.flags.linePending = s.flags.linePending := by rw [framePhase_frame]

end

/-- The region advance leaves the frame buffer, LineCounter and the flags as the phases leave them. -/
theorem lineStep_phases (s : State) :
    s.lineStep.frame = s.lineCounted.framePhase.lineInterrupt.frame ∧
    s.lineStep.lineCounter = s.lineCounted.framePhase.lineInterrupt.lineCounter ∧
    s.lineStep.flags = s.lineCounted.framePhase.lineInterrupt.flags := by
  obtain ⟨o, ho⟩ := lineStep_eq_endState s
  obtain ⟨beam, latched, bd, fault, ha⟩ := advanceRegion_frame (s.answer 0).linePhases
  rw [ho, ha]
  exact ⟨rfl, rfl, rfl⟩

/-- The line interrupt leaves what the frame phase wrote. -/
theorem lineStep_framePhase (s : State) :
    s.lineStep.frame = s.lineCounted.framePhase.frame ∧
    s.lineStep.flags.framePending = s.lineCounted.framePhase.flags.framePending := by
  obtain ⟨hframe, -, hflags⟩ := lineStep_phases s
  rw [hframe, hflags, lineInterrupt_frame]
  exact ⟨rfl, rfl⟩

section
variable {s : State}

/-- The line step that makes SD the frame-interrupt line assembles a frame (R168). -/
theorem lineStep_atFrameIntLine (h : s.beam.sd + 1 = frameIntLine s.latched.h) :
    s.lineStep.flags.framePending = true ∧
    ∃ rows, s.lineStep.frame = ⟨.assembled rows, s.latched.outW, s.latched.outH⟩ := by
  obtain ⟨hframe, hflag⟩ := lineStep_framePhase s
  have hphase : s.lineCounted.framePhase =
      { s.lineCounted with flags := { s.lineCounted.flags with framePending := true } }.endFrame :=
    if_pos (by simpa using h)
  rw [hframe, hflag, hphase, ← lineCounted_latched]
  exact ⟨rfl, _, rfl⟩

/-- Every other line step leaves the frame buffer and FramePending alone. -/
theorem lineStep_offFrameIntLine (h : s.beam.sd + 1 ≠ frameIntLine s.latched.h) :
    s.lineStep.flags.framePending = s.flags.framePending ∧ s.lineStep.frame = s.frame := by
  obtain ⟨hframe, hflag⟩ := lineStep_framePhase s
  have hphase : s.lineCounted.framePhase = s.lineCounted := if_neg (by simpa using h)
  rw [hframe, hflag, hphase]
  exact ⟨lineCounted_framePending s, lineCounted_frameBuffer s⟩

/-- The two tests of R170, LINE_INT_TEST. -/
theorem lineFires_iff (t : LineIntTest) (old : Int) :
    lineFires t old = true ↔ if t = .afterDecrement then old - 1 ≤ 0 else old ≤ 0 := by
  cases t <;> simp [lineFires]

/-- Inside the window the countdown fires or decrements (R169). -/
theorem lineInterrupt_insideWindow (hsupport : s.inputs.cfg.supportsLineInterrupts = true)
    (hsd : s.beam.sd ≤ s.latched.h.toNat) :
    s.lineInterrupt =
      if lineFires s.params.lineIntTest s.lineCounter then
        { s with lineCounter := s.regNat 10, flags := { s.flags with linePending := true } }
      else { s with lineCounter := s.lineCounter - 1 } := by
  rw [State.lineInterrupt, if_pos hsupport, if_pos hsd]

/-- Outside the window LineCounter is reloaded (R169). -/
theorem lineInterrupt_outsideWindow (hsupport : s.inputs.cfg.supportsLineInterrupts = true)
    (hsd : s.latched.h.toNat < s.beam.sd) : s.lineInterrupt = { s with lineCounter := s.regNat 10 } := by
  rw [State.lineInterrupt, if_pos hsupport, if_neg (Nat.not_le.mpr hsd)]

theorem lineInterrupt_unsupported (hsupport : s.inputs.cfg.supportsLineInterrupts = false) : s.lineInterrupt = s := by
  rw [State.lineInterrupt, hsupport]
  rfl

end

section
variable {s : State}

/-- A line step into the window fires or decrements (R169, R170). -/
theorem lineStep_insideWindow (hsupport : s.inputs.cfg.supportsLineInterrupts = true)
    (hsd : s.beam.sd + 1 ≤ s.latched.h.toNat) :
    (lineFires s.params.lineIntTest s.lineCounter = true →
      s.lineStep.flags.linePending = true ∧ s.lineStep.lineCounter = (s.regNat 10 : Int)) ∧
    (¬ lineFires s.params.lineIntTest s.lineCounter = true →
      s.lineStep.flags.linePending = s.flags.linePending ∧ s.lineStep.lineCounter = s.lineCounter - 1) := by
  obtain ⟨-, hcounter, hflags⟩ := lineStep_phases s
  rw [hcounter, hflags, lineInterrupt_insideWindow (by simpa using hsupport) (by simpa using hsd)]
  exact ⟨fun hfires => by simp [hfires], fun hfires => by simp [hfires]⟩

/-- A line step outside the window reloads LineCounter (R169). -/
theorem lineStep_outsideWindow (hsupport : s.inputs.cfg.supportsLineInterrupts = true)
    (hsd : s.latched.h.toNat < s.beam.sd + 1) :
    s.lineStep.flags.linePending = s.flags.linePending ∧ s.lineStep.lineCounter = (s.regNat 10 : Int) := by
  obtain ⟨-, hcounter, hflags⟩ := lineStep_phases s
  rw [hcounter, hflags, lineInterrupt_outsideWindow (by simpa using hsupport) (by simpa using hsd)]
  simp

/-- Without line-interrupt support a line step writes neither LinePending nor LineCounter (R171). -/
theorem lineStep_unsupported (hsupport : s.inputs.cfg.supportsLineInterrupts = false) :
    s.lineStep.flags.linePending = s.flags.linePending ∧ s.lineStep.lineCounter = s.lineCounter := by
  obtain ⟨-, hcounter, hflags⟩ := lineStep_phases s
  rw [hcounter, hflags, lineInterrupt_unsupported (by simpa using hsupport)]
  simp

end

/-! ## Faults and the pulse (42_beam R172, 60_exceptions R322) -/

theorem fault_of_enterNext_ok {s t : State} (h : s.enterNext = .ok t) : t.fault = s.fault := by
  obtain ⟨-, sys, -, he⟩ | ⟨-, -, he⟩ | ⟨-, he⟩ := enterNext_cases s <;> cases he.symm.trans h <;> rfl

theorem fault_of_enterNext_error {s f : State} (h : s.enterNext = .error f) : f.fault = some .configInvalid := by
  obtain ⟨-, sys, -, he⟩ | ⟨-, -, he⟩ | ⟨-, he⟩ := enterNext_cases s <;> cases he.symm.trans h
  rfl

/-- The region loop stops with ConfigInvalid, or leaves the fault state alone. -/
theorem fault_of_passRegions (fuel : Nat) (s : State) :
    match State.passRegions fuel s with
    | .error f => f.fault = some .configInvalid
    | .ok t => t.fault = s.fault := by
  induction fuel generalizing s with
  | zero => rfl
  | succ fuel ih =>
    by_cases hzero : s.beam.remaining = 0
    · cases he : s.enterNext with
      | error f =>
        rw [State.passRegions, if_pos hzero, he]
        exact fault_of_enterNext_error he
      | ok t =>
        rw [passRegions_succ hzero he, ← fault_of_enterNext_ok he]
        exact ih t
    · rw [passRegions_remaining _ s hzero]

/-- A line step pulses and keeps the fault state, or is stopped by ConfigInvalid without a pulse. -/
theorem lineStep_pulse_or_fault (s : State) :
    (s.lineStep.fault = s.fault ∧ s.lineStep.outputs.irqEvaluate = true) ∨
    (s.lineStep.fault = some .configInvalid ∧ s.lineStep.outputs.irqEvaluate = false) := by
  obtain ⟨beam, latched, bd, fault, ha⟩ := advanceRegion_frame (s.answer 0).linePhases
  have hfault := fault_of_passRegions 6 s.countedDown
  rw [← advanceRegion_linePhases] at hfault
  cases h : (s.answer 0).linePhases.advanceRegion with rw [h] at ha hfault
  | error f =>
    rw [lineStep_of_advance_error h]
    obtain rfl := ha
    exact .inr ⟨hfault, congrArg Outputs.irqEvaluate (linePhases_outputs (s.answer 0))⟩
  | ok t =>
    rw [lineStep_of_advance_ok h]
    exact .inl ⟨hfault.trans (linePhases_fault (s.answer 0)), rfl⟩

/-! ## A LineCounter that nothing reads (42_beam R171) -/

/-- The same state with another LineCounter. -/
def State.withCounter (s : State) (n : Int) : State := { s with lineCounter := n }

/-- What keeps the beam and commutes with entering a region commutes with the region loop. -/
theorem passRegions_mapState {f : State → State} (hbeam : ∀ u, (f u).beam = u.beam)
    (henter : ∀ u, (f u).enterNext = mapState f u.enterNext) (fuel : Nat) (s : State) :
    State.passRegions fuel (f s) = mapState f (State.passRegions fuel s) := by
  induction fuel generalizing s with
  | zero => rfl
  | succ fuel ih =>
    simp only [State.passRegions, hbeam, henter]
    split
    · cases s.enterNext with
      | error e => rfl
      | ok t => exact ih t
    · rfl

section
variable (s : State) (n : Int)

/-- No renderer reads LineCounter. -/
theorem renderAlike_withCounter : RenderAlike s (s.withCounter n) :=
  ⟨⟨fun _ _ _ => rfl, rfl, rfl, rfl, rfl, rfl, rfl, rfl⟩, rfl, rfl, rfl, rfl, rfl⟩

theorem renderedWith_withCounter {i : Instr} {rr : Renderer} (hrr : rendererOf i = some rr) :
    (s.withCounter n).renderedWith rr = (s.renderedWith rr).withCounter n := by
  have halike := renderAlike_withCounter s n
  have hline : (s.withCounter n).renderLineWith rr s.beam.sd = (s.renderLineWith rr s.beam.sd).withCounter n := by
    rw [halike.renderLineWith (halike.of_rendererOf hrr), renderLineWith_frame s]
    rfl
  exact (congrArg (ite _ · _) hline).trans (apply_ite (State.withCounter · n) _ _ _).symm

theorem lineCounted_withCounter : (s.withCounter n).lineCounted = s.lineCounted.withCounter n := by
  obtain ⟨rr, hrr, -⟩ := renderLine_eq s
  have hrr' : rendererOf (selectRenderer (s.withCounter n).modeVector) = some rr := hrr
  unfold State.lineCounted
  rw [renderPhase_sampleCycle hrr, renderPhase_sampleCycle hrr', renderedWith_withCounter s n hrr]
  rfl

theorem framePhase_withCounter : (s.withCounter n).framePhase = s.framePhase.withCounter n := by
  obtain ⟨hsd, h⟩ | ⟨hsd, h⟩ := framePhase_cases s
  · rw [h]
    exact if_pos hsd
  · rw [h]
    exact if_neg hsd

theorem beginFrame_withCounter : (s.withCounter n).beginFrame = s.beginFrame.map (State.withCounter · n) := by
  have hinputs : (s.withCounter n).inputs = s.inputs := rfl
  simp only [State.beginFrame, hinputs]
  split <;> rfl

theorem enterNext_withCounter : (s.withCounter n).enterNext = mapState (State.withCounter · n) s.enterNext := by
  by_cases h : s.beam.region.next = .activeDisplay
  · have hbegin : (s.withCounter n).toNextRegion.beginFrame = _ := beginFrame_withCounter s.toNextRegion n
    rw [enterNext_beginFrame h, enterNext_beginFrame (s := s.withCounter n) h, hbegin]
    cases s.toNextRegion.beginFrame <;> rfl
  · rw [enterNext_loadRegion h, enterNext_loadRegion (s := s.withCounter n) h]
    rfl

theorem lineStep_withCounter (hsupport : s.inputs.cfg.supportsLineInterrupts = false) :
    (s.withCounter n).lineStep = s.lineStep.withCounter n := by
  have hoff : s.lineCounted.framePhase.inputs.cfg.supportsLineInterrupts = false := by simpa using hsupport
  have hphases : ((s.withCounter n).answer 0).linePhases = (s.answer 0).linePhases.withCounter n := by
    rw [linePhases_eq_lineCounted, linePhases_eq_lineCounted, lineCounted_withCounter, framePhase_withCounter,
      lineInterrupt_unsupported hoff, lineInterrupt_unsupported (s := s.lineCounted.framePhase.withCounter n) hoff]
  have hadvance (u : State) : (u.withCounter n).advanceRegion = mapState (State.withCounter · n) u.advanceRegion :=
    passRegions_mapState (f := (State.withCounter · n)) (fun _ => rfl) (fun u => enterNext_withCounter u n) 6
      { u with beam := { u.beam with remaining := u.beam.remaining - 1 } }
  unfold State.lineStep
  rw [hphases, hadvance]
  cases (s.answer 0).linePhases.advanceRegion <;> rfl

end

/-! ## The parts of the invariant -/

theorem length_imageOf (height width : Nat) (f : Nat → Nat → Colour) : (imageOf height width f).length = height := by
  simp [imageOf]

theorem length_of_mem_imageOf {height width : Nat} {f : Nat → Nat → Colour} {row : List Colour}
    (h : row ∈ imageOf height width f) : row.length = width := by
  obtain ⟨r, -, rfl⟩ := List.mem_map.mp h
  simp

/-- The assembled image has the size that BeginFrame latches for its mode (46_frame_assembler R296, 42_beam R162). -/
theorem assembled_size (s : State) :
    s.assembled.length = (outputDims s.latched.resize s.latched.h).2 ∧
    ∀ row ∈ s.assembled, row.length = (outputDims s.latched.resize s.latched.h).1 := by
  unfold State.assembled
  cases s.latched.resize <;> exact ⟨length_imageOf _ _ _, fun _ => length_of_mem_imageOf⟩

theorem outputDims_eq (m : ResizingMode) (h : Height) :
    outputDims m h = if m = .normal then (256, h.toNat) else (160, 144) := by
  cases m <;> rfl

theorem contains_outputDims (m : ResizingMode) (h : Height) :
    [(256, 192), (256, 224), (256, 240), (160, 144)].contains (outputDims m h) = true := by
  cases m <;> cases h <;> decide

theorem frameOk_unspecified {s : State} {n : Nat} (himage : s.frame.image = .unspecified n) {m : ResizingMode} {h : Height}
    (hdims : (s.frame.width, s.frame.height) = outputDims m h) : s.frameOk = true := by
  rw [State.frameOk, hdims, contains_outputDims, himage]
  rfl

theorem frameOk_endFrame {s : State} (hlatched : s.latchedOk = true) : s.endFrame.frameOk = true := by
  simp only [State.latchedOk, Bool.and_eq_true, decide_eq_true_eq] at hlatched
  obtain ⟨hdims, -⟩ := hlatched
  obtain ⟨hrows, hcols⟩ := assembled_size s
  rw [← hdims] at hrows hcols
  have hlegal := contains_outputDims s.latched.resize s.latched.h
  rw [← hdims] at hlegal
  exact Bool.and_eq_true_iff.mpr ⟨hlegal, Bool.and_eq_true_iff.mpr
    ⟨decide_eq_true hrows, List.all_eq_true.mpr fun row hrow => decide_eq_true (hcols row hrow)⟩⟩

/-- The scroll BeginFrame latches (42_beam R161). -/
theorem toNat_latchYScroll (h : Height) (r9 : Byte) :
    (latchYScroll h r9).toNat = if h = .h192 then r9.toNat % 224 else r9.toNat := by
  cases h with
  | h192 =>
    have hlt : r9.toNat % 224 < 2 ^ 8 := by omega
    exact (BitVec.toNat_ofNat _ _).trans (Nat.mod_eq_of_lt hlt)
  | h224 | h240 => rfl

/-- BeginFrame latches the dimensions of the mode it latches, and at 192 lines a scroll below 224 (R161, R162). -/
theorem latchedOk_latchFrame (s : State) (sys : TvSystem) : (s.latchFrame sys).latchedOk = true := by
  simp only [State.latchedOk, Bool.and_eq_true, Bool.or_eq_true, decide_eq_true_eq]
  refine ⟨rfl, or_iff_not_imp_left.mpr fun h192 => ?_⟩
  have hscroll := (toNat_latchYScroll s.inputs.cfg.verticalResolution (s.reg 9)).trans (if_pos (not_not.mp h192))
  exact hscroll.trans_lt (Nat.mod_lt _ (by decide))

/-- What BeginFrame and reset leave in CachedBackdrop is opaque (R161). -/
theorem opaqueColour_black : opaqueColour 0xFF000000 = true := by decide

theorem counterOk_iff {s : State} : s.counterOk = true ↔ 0 ≤ s.lineCounter ∧ s.lineCounter ≤ 255 := by
  simp only [State.counterOk, Bool.and_eq_true, decide_eq_true_eq]

/-- The reloads of LineCounter are bytes, and it is decremented only where it does not fire (42_beam R170). -/
theorem counterOk_lineInterrupt {s : State} (h : s.counterOk = true) : s.lineInterrupt.counterOk = true := by
  have hreload : 0 ≤ (s.regNat 10 : Int) ∧ (s.regNat 10 : Int) ≤ 255 := by
    have hlt : s.regNat 10 < 256 := (s.reg 10).isLt
    omega
  cases hsupport : s.inputs.cfg.supportsLineInterrupts with
  | false => rwa [lineInterrupt_unsupported hsupport]
  | true =>
    by_cases hsd : s.beam.sd ≤ s.latched.h.toNat
    · rw [lineInterrupt_insideWindow hsupport hsd]
      split
      · exact counterOk_iff.mpr hreload
      · next hfires =>
        rw [lineFires_iff] at hfires
        obtain ⟨-, hle⟩ := counterOk_iff.mp h
        have hpos : 0 < s.lineCounter := by
          split at hfires <;> omega
        exact counterOk_iff.mpr ⟨Int.sub_nonneg_of_le hpos, (Int.sub_le_self _ (by decide)).trans hle⟩
    · rw [lineInterrupt_outsideWindow hsupport (Nat.lt_of_not_le hsd)]
      exact counterOk_iff.mpr hreload

/-- The invariant but for the beam. -/
structure Settled (s : State) : Prop where
  params   : s.params.wellFormed = true
  memory   : s.memoryOk = true
  latched  : s.latchedOk = true
  counter  : s.counterOk = true
  frame    : s.frameOk = true
  backdrop : opaqueColour s.cachedBackdrop = true

theorem Inv_iff {s : State} :
    s.Inv = true ↔ Settled s ∧ (s.fault = some .configInvalid ∨ s.beamOk = true) := by
  simp only [State.Inv, Bool.and_eq_true, Bool.or_eq_true, decide_eq_true_eq]
  exact and_congr_left fun _ =>
    ⟨fun ⟨⟨⟨⟨⟨hp, hm⟩, hl⟩, hc⟩, hf⟩, hb⟩ => ⟨hp, hm, hl, hc, hf, hb⟩,
      fun ⟨hp, hm, hl, hc, hf, hb⟩ => ⟨⟨⟨⟨⟨hp, hm⟩, hl⟩, hc⟩, hf⟩, hb⟩⟩

theorem memoryOk_iff {s : State} :
    s.memoryOk = true ↔
      (s.vram.wf = true ∧ s.vram.within 0x4000 = true) ∧ s.cram.wf = true ∧ s.cram.within s.cramSize = true := by
  simp only [State.memoryOk, Bool.and_eq_true, and_assoc]

theorem memoryOk_setVram {s : State} (h : s.memoryOk = true) (a : Nat) (v : Byte) : (s.setVram a v).memoryOk = true := by
  obtain ⟨⟨hwf, hin⟩, hcram⟩ := memoryOk_iff.mp h
  exact memoryOk_iff.mpr
    ⟨⟨Memory.write_wf hwf _ _, Memory.write_within hin (Nat.mod_lt _ (by decide)) _⟩, hcram⟩

theorem memoryOk_setCram {s : State} (h : s.memoryOk = true) (a : Nat) (v : Byte) : (s.setCram a v).memoryOk = true := by
  obtain ⟨hvram, hwf, hin⟩ := memoryOk_iff.mp h
  have hsize : 0 < s.cramSize := by
    unfold State.cramSize
    cases s.params.cramFormat <;> decide
  exact memoryOk_iff.mpr ⟨hvram, Memory.write_wf hwf _ _, Memory.write_within hin (Nat.mod_lt _ hsize) _⟩

/-! ## What the operations keep of the invariant -/

namespace Settled
variable {s : State} (h : Settled s)
include h

theorem renderLineWith {i : Instr} {rr : Renderer} (hrr : rendererOf i = some rr) (y : Nat) :
    Settled (s.renderLineWith rr y) := by
  rw [renderLineWith_frame]
  exact ⟨h.params, h.memory, h.latched, h.counter, h.frame, (Renderer.Opaque.of_rendererOf hrr).backdrop s⟩

theorem renderPhase : Settled s.renderPhase := by
  unfold State.renderPhase
  split
  · obtain ⟨rr, hrr, hline⟩ := renderLine_eq s
    rw [hline]
    exact h.renderLineWith hrr s.beam.sd
  · exact h

theorem framePhase : Settled s.framePhase := by
  obtain ⟨-, hphase⟩ | ⟨-, hphase⟩ := framePhase_cases s
  · rw [hphase]
    exact ⟨h.params, h.memory, h.latched, h.counter, frameOk_endFrame h.latched, h.backdrop⟩
  · rwa [hphase]

theorem lineInterrupt : Settled s.lineInterrupt := by
  have hcounter := counterOk_lineInterrupt h.counter
  rw [lineInterrupt_frame] at hcounter ⊢
  exact ⟨h.params, h.memory, h.latched, hcounter, h.frame, h.backdrop⟩

theorem linePhases : Settled s.linePhases := by
  have hsample : Settled s.sampleCycle := ⟨h.params, h.memory, h.latched, h.counter, h.frame, h.backdrop⟩
  obtain ⟨hp, hm, hl, hc, hf, hb⟩ := hsample.renderPhase
  have hcount : Settled s.sampleCycle.renderPhase.countLine := ⟨hp, hm, hl, hc, hf, hb⟩
  exact hcount.framePhase.lineInterrupt

/-- The line step keeps everything but the beam, whatever its outcome. -/
theorem lineStep : Settled s.lineStep := by
  have hanswer : Settled (s.answer 0) := ⟨h.params, h.memory, h.latched, h.counter, h.frame, h.backdrop⟩
  have hadvance : Settled (endState (s.answer 0).linePhases.advanceRegion) :=
    advanceRegion_keeps (P := Settled)
      (fun u _ _ hu => ⟨hu.params, hu.memory, hu.latched, hu.counter, hu.frame, hu.backdrop⟩)
      (fun u sys hu => ⟨hu.params, hu.memory, latchedOk_latchFrame u sys, hu.counter, hu.frame, opaqueColour_black⟩)
      (fun u _ hu => ⟨hu.params, hu.memory, hu.latched, hu.counter, hu.frame, hu.backdrop⟩)
      hanswer.linePhases
  obtain ⟨o, ho⟩ := lineStep_eq_endState s
  rw [ho]
  exact ⟨hadvance.params, hadvance.memory, hadvance.latched, hadvance.counter, hadvance.frame, hadvance.backdrop⟩

end Settled

section
variable {s : State} (hp : s.params.wellFormed = true)
include hp

/-- A beam inside its region has lines of the frame left. -/
theorem sd_lt_frameLines (hok : s.beamOk = true) : s.beam.sd < s.frameLines := by
  obtain ⟨hpos, -, hline⟩ := beamOk_iff.mp hok
  have hend := s.lens.startOf_add_get_le_sum s.beam.region
  rw [lens_sum hp] at hend
  omega

/-- A line step leaves the beam inside a region, or is stopped by ConfigInvalid. -/
theorem lineStep_beam (hok : s.beamOk = true) :
    s.lineStep.fault = some .configInvalid ∨ s.lineStep.beamOk = true := by
  obtain hsd | hsd := Nat.lt_or_eq_of_le (Nat.succ_le_of_lt (sd_lt_frameLines hp hok))
  · obtain ⟨-, -, hbeamOk, -⟩ := lineStep_insideFrame hp hok hsd
    exact .inr hbeamOk
  · by_cases hvalid : s.inputs.cfg.videoSystem = .invalid
    · rw [lineStep_configInvalid hp hok hsd hvalid]
      exact .inl rfl
    · obtain ⟨sys, -, hline⟩ := lineStep_beginsFrame hp hok hsd hvalid
      rw [hline]
      exact .inr (beamOk_latchFrame_loadRegion (by rwa [frameDone_params]) rfl sys)

/-- Reset leads to the invariant from any state with permitted parameters, Faulted or not (70_reset R350). -/
theorem Inv_resetBlock (c : Cycle) : (s.resetBlock c).Inv = true := by
  obtain ⟨hvram, hvramIn, hcram, hcramIn⟩ := initMemory_of_wellFormed hp
  have hmemory : (s.resetBase c).memoryOk = true := memoryOk_iff.mpr ⟨⟨hvram, hvramIn⟩, hcram, hcramIn⟩
  rw [Inv_iff]
  obtain ⟨sys, hbegin, -⟩ | ⟨-, hbegin⟩ := beginFrame_cases (s.resetBase c)
  · simp only [State.resetBlock, hbegin]
    refine ⟨⟨hp, hmemory, latchedOk_latchFrame (s.resetBase c) sys, rfl, frameOk_unspecified rfl rfl, opaqueColour_black⟩,
      .inr (beamOk_latchFrame_loadRegion (s := s.resetBase c) hp rfl sys)⟩
  · simp only [State.resetBlock, hbegin]
    exact ⟨⟨hp, hmemory, rfl, rfl, frameOk_unspecified (m := .normal) (h := .h192) rfl rfl, opaqueColour_black⟩, .inl rfl⟩

end

theorem step_of_pending_reset {s : State} {c : Cycle} {rest : List HostInput}
    (h : s.inputs.pending = .reset c :: rest) : step s = .next (s.applyReset c rest) := by
  rw [step, h]

/-- Every instruction keeps the invariant in a block that is not Faulted. -/
theorem Inv_of_exec {s t : State} {i : Instr} (hinv : s.Inv = true) (hfault : s.fault = none)
    (h : exec i s = .next t) : t.Inv = true := by
  rw [Inv_iff] at hinv ⊢
  obtain ⟨hs, hbeam⟩ := hinv
  have hok : s.beamOk = true := hbeam.resolve_left (by simp [hfault])
  cases exec_eq_next_iff.mp h with
  | vramwr a v =>
    exact ⟨⟨hs.params, memoryOk_setVram hs.memory a.toNat v, hs.latched, hs.counter, hs.frame, hs.backdrop⟩, .inr hok⟩
  | cramwr a v =>
    exact ⟨⟨hs.params, memoryOk_setCram hs.memory a.toNat v, hs.latched, hs.counter, hs.frame, hs.backdrop⟩, .inr hok⟩
  | line => exact ⟨hs.lineStep, lineStep_beam hs.params hok⟩
  | render hrr =>
    refine ⟨hs.renderLineWith hrr s.beam.sd, .inr ?_⟩
    rw [renderLineWith_frame]
    exact hok
  | regwr | flagclr | illegalE | illegalF | read =>
    exact ⟨⟨hs.params, hs.memory, hs.latched, hs.counter, hs.frame, hs.backdrop⟩, .inr hok⟩

/-- Settles O59: everything but the beam is kept by each operation by itself; the beam, by the region advance of a line step,
and a refused command, a configuration change and a wait touch neither. -/
theorem everyStepKeepsTheInvariant : Obligations.EveryStepKeepsTheInvariant := by
  intro s t hinv h
  obtain ⟨hs, hbeam⟩ := Inv_iff.mp hinv
  obtain ⟨hp, hm, hl, hc, hf, hb⟩ := hs
  cases hpending : s.inputs.pending with
  | nil =>
    obtain rfl := Host.Outcome.next.inj ((step_of_pending_nil hpending).symm.trans h)
    exact Inv_iff.mpr ⟨⟨hp, hm, hl, hc, hf, hb⟩, hbeam⟩
  | cons input rest =>
    cases input with
    | configure cfg =>
      obtain rfl := Host.Outcome.next.inj ((step_of_pending_configure hpending).symm.trans h)
      exact Inv_iff.mpr ⟨⟨hp, hm, hl, hc, hf, hb⟩, hbeam⟩
    | reset c =>
      obtain rfl := Host.Outcome.next.inj ((step_of_pending_reset hpending).symm.trans h)
      exact Inv_resetBlock (s := { s with inputs := { s.inputs with pending := rest } }) hp c
    | command w c =>
      by_cases hfault : s.fault = none
      · have hpresent : (s.present c rest).Inv = true := Inv_iff.mpr ⟨⟨hp, hm, hl, hc, hf, hb⟩, hbeam⟩
        exact Inv_of_exec hpresent hfault ((step_of_pending_command hpending hfault).symm.trans h)
      · obtain rfl := Host.Outcome.next.inj ((step_of_pending_command_faulted hpending hfault).symm.trans h)
        exact Inv_iff.mpr ⟨⟨hp, hm, hl, hc, hf, hb⟩, hbeam⟩

/-! ## Lines of one frame (42_beam R175) -/

theorem linesFrom_eq_iterate (n : Nat) (s : State) : s.linesFrom n = some (State.lineStep^[n] s) := by
  induction n generalizing s with
  | zero => rfl
  | succ n ih => exact ih s.lineStep

/-- `t` stands on line `n` of the frame at whose start `s` stands, and FramePending was clear then. -/
structure OnLine (s : State) (n : Nat) (t : State) : Prop where
  params       : t.params = s.params
  inputs       : t.inputs = s.inputs
  latched      : t.latched = s.latched
  fault        : t.fault = none
  sd           : t.beam.sd = n
  beamOk       : t.beamOk = true
  framePending : t.flags.framePending = true ↔ frameIntLine s.latched.h ≤ n

section
variable {s t : State} (hp : s.params.wellFormed = true)
include hp

theorem OnLine.zero (hstart : s.atFrameStart = true) (hframe : s.flags.framePending = false) : OnLine s 0 s := by
  simp only [State.atFrameStart, Bool.and_eq_true, decide_eq_true_eq] at hstart
  obtain ⟨hbeam, hfault⟩ := hstart
  have hline : ¬ frameIntLine s.latched.h ≤ 0 := by
    cases s.latched.h <;> decide
  exact ⟨rfl, rfl, rfl, hfault, congrArg Beam.sd hbeam, beamOk_of_frameStart hp hbeam, by simp [hframe, hline]⟩

/-- What a line step before the last line changes and keeps. -/
theorem lineStep_insideFrame_keeps (hok : s.beamOk = true) (hsd : s.beam.sd + 1 < s.frameLines) :
    s.lineStep.beam.sd = s.beam.sd + 1 ∧ s.lineStep.params = s.params ∧ s.lineStep.inputs = s.inputs ∧
      s.lineStep.latched = s.latched ∧ s.lineStep.fault = s.fault ∧ s.lineStep.outputs = ⟨0, true⟩ := by
  obtain ⟨beam, hline, -, hbeamSd, -⟩ := lineStep_insideFrame hp hok hsd
  rw [hline]
  simp [State.countedDown, hbeamSd]

theorem OnLine.succ {n : Nat} (h : OnLine s n t) (hn : n + 1 < s.frameLines) : OnLine s (n + 1) t.lineStep := by
  have hp' : t.params.wellFormed = true := h.params ▸ hp
  have hsd : t.beam.sd + 1 < t.frameLines := by
    rw [State.frameLines, h.latched, h.sd]
    exact hn
  obtain ⟨-, -, hbeamOk, -⟩ := lineStep_insideFrame hp' h.beamOk hsd
  obtain ⟨hcount, hparams, hinputs, hlatched, hfault, -⟩ := lineStep_insideFrame_keeps hp' h.beamOk hsd
  refine ⟨hparams.trans h.params, hinputs.trans h.inputs, hlatched.trans h.latched, hfault.trans h.fault,
    by rw [hcount, h.sd], hbeamOk, ?_⟩
  by_cases hint : t.beam.sd + 1 = frameIntLine t.latched.h
  · obtain ⟨hset, -⟩ := lineStep_atFrameIntLine hint
    rw [h.latched, h.sd] at hint
    simp [hset, hint]
  · obtain ⟨hkeep, -⟩ := lineStep_offFrameIntLine hint
    rw [h.latched, h.sd] at hint
    rw [hkeep, h.framePending]
    omega

theorem OnLine.iterate (hstart : s.atFrameStart = true) (hframe : s.flags.framePending = false) {n : Nat}
    (hn : n < s.frameLines) : OnLine s n (State.lineStep^[n] s) := by
  induction n with
  | zero => exact .zero hp hstart hframe
  | succ n ih =>
    rw [Function.iterate_succ_apply']
    exact (ih (Nat.lt_of_succ_lt hn)).succ hp hn

/-- The line step of the last line leads to the start of the next frame (R173, R174). -/
theorem atFrameStart_lineStep (hok : s.beamOk = true) (hsd : s.beam.sd + 1 = s.frameLines)
    (hvalid : s.inputs.cfg.videoSystem ≠ .invalid) (hfault : s.fault = none) : s.lineStep.atFrameStart = true := by
  obtain ⟨sys, -, hline⟩ := lineStep_beginsFrame hp hok hsd hvalid
  have hbeam := latchFrame_loadRegion_beam (s := s.frameDone) (by rwa [frameDone_params]) rfl sys
  simp only [State.atFrameStart, Bool.and_eq_true, decide_eq_true_eq, hline]
  exact ⟨hbeam, (frameDone_fault s).trans hfault⟩

end

/-! ## The obligations -/

/-- Settles O23: only the render phase writes the Pixel Buffer, on line SD in ActiveDisplay. -/
theorem lineStepFrame : Obligations.LineStepFrame := by
  intro s
  refine ⟨s.lineStep, rfl, lineStep_frame s, fun a => ?_, fun y x hline => ?_⟩
  · rw [lineStep_frame]
    exact ⟨rfl, rfl⟩
  · obtain ⟨rr, hrr, -⟩ := renderLine_eq s
    have hpb : s.lineStep.pb = (s.renderedWith rr).pb := congrArg Prod.fst (lineStep_rendering hrr).left
    have hpixel : s.lineStep.pixel y x = (s.renderedWith rr).pixel y x := by
      simp only [State.pixel, State.pbRow, hpb]
    rw [hpixel, State.renderedWith]
    split
    · next hactive => exact renderLineWith_pixel_other s rr s.beam.sd y x (hline.resolve_left (not_not_intro hactive))
    · rfl

/-- Settles O24: the region advance of such a step ends inside the frame that it began in. -/
theorem lineStepCountsOneLine : Obligations.LineStepCountsOneLine := by
  intro s hp hok hsd
  obtain ⟨beam, hline, hbeamOk, -, hstay, hmove⟩ := lineStep_insideFrame hp hok hsd
  obtain ⟨hcount, hparams, -, hlatched, hfault, houtputs⟩ := lineStep_insideFrame_keeps hp hok hsd
  have hbeam : s.lineStep.beam = beam := by rw [hline]; rfl
  have hlens : s.lineStep.lens = s.lens := by rw [State.lens, hparams, hlatched]; rfl
  have hactive := region_eq_activeDisplay_iff (hparams ▸ hp) hbeamOk
  rw [hlatched] at hactive
  refine ⟨s.lineStep, rfl, hcount, hbeamOk, fun h => ?_, fun h => ?_, hactive, hlatched, hfault, houtputs⟩
  · rw [hbeam, hstay h]
    exact ⟨rfl, rfl⟩
  · rw [hbeam, hlens]
    exact hmove h

/-- Settles O25: the state such a step leaves is the one BeginFrame latches, with ActiveDisplay loaded. -/
theorem lastLineStepBeginsAFrame : Obligations.LastLineStepBeginsAFrame := by
  intro s hp hok hsd hvalid
  obtain ⟨sys, hsys, hline⟩ := lineStep_beginsFrame hp hok hsd hvalid
  have hbeam := latchFrame_loadRegion_beam (s := s.frameDone) (by rwa [frameDone_params]) rfl sys
  rw [frameDone_inputs] at hbeam
  have hlatched : s.lineStep.latched =
      ⟨sys, s.inputs.cfg.verticalResolution, latchYScroll s.inputs.cfg.verticalResolution (s.reg 9),
        s.inputs.cfg.resizingMode, (outputDims s.inputs.cfg.resizingMode s.inputs.cfg.verticalResolution).1,
        (outputDims s.inputs.cfg.resizingMode s.inputs.cfg.verticalResolution).2⟩ := by
    rw [hline]
    simp only [pulse_latched, loadRegion_latched, State.latchFrame, State.reg, frameDone_inputs, frameDone_regs]
  refine ⟨s.lineStep, rfl, hline ▸ hbeam, ?_⟩
  rw [hlatched]
  refine ⟨hsys, rfl, toNat_latchYScroll _ _, rfl, outputDims_eq _ _, ?_⟩
  rw [hline]
  exact ⟨rfl, frameDone_fault s, congrArg (Outputs.mk · true) (congrArg Outputs.rd (frameDone_outputs s))⟩

/-- Settles O27: the frame phase is the only one that writes FramePending or the frame buffer. -/
theorem frameInterruptAtItsLine : Obligations.FrameInterruptAtItsLine := by
  intro s line
  have hline : line = frameIntLine s.latched.h := rfl
  refine ⟨s.lineStep, rfl, fun h => ?_, fun h => lineStep_offFrameIntLine (hline ▸ h)⟩
  obtain ⟨hflag, rows, hframe⟩ := lineStep_atFrameIntLine (hline ▸ h)
  rw [hframe]
  exact ⟨hflag, rfl, rfl, rows, rfl⟩

/-- Settles O28: the line interrupt runs on the values before the step and the line just counted. -/
theorem lineCountdown : Obligations.LineCountdown := by
  intro s hsupport
  refine ⟨s.lineStep, rfl, ?_⟩
  simp only [← lineFires_iff]
  exact ⟨fun hsd => (lineStep_insideWindow hsupport hsd).left, fun hsd => (lineStep_insideWindow hsupport hsd).right,
    lineStep_outsideWindow hsupport⟩

/-- Settles O29: without support the line interrupt does nothing, and no other operation reads or writes LineCounter. -/
theorem noLineInterruptSupport : Obligations.NoLineInterruptSupport := by
  intro s n hsupport
  obtain ⟨hpending, hcounter⟩ := lineStep_unsupported hsupport
  exact ⟨s.lineStep, rfl, hcounter, hpending, congrArg Host.Outcome.next (lineStep_withCounter s n hsupport)⟩

/-- Settles O31: a line step pulses unless it takes the fault ConfigInvalid, and it writes no enable bit. -/
theorem everyLineStepPulses : Obligations.EveryLineStepPulses := by
  intro s hnone
  have hrd := lineStep_rd s
  refine ⟨s.lineStep, rfl, ?_, s.lineStep.answer _, exec_of_readWord rfl, ?_⟩
  · have houtputs : s.lineStep.outputs = ⟨0, s.lineStep.outputs.irqEvaluate⟩ := by rw [← hrd]
    rw [houtputs]
    obtain ⟨hfault, hpulse⟩ | ⟨hfault, hpulse⟩ := lineStep_pulse_or_fault s
    · rw [hpulse, hfault, hnone]
      rfl
    · rw [hpulse, hfault]
      rfl
  · have hregs : s.lineStep.regs = s.regs := by rw [lineStep_frame]
    simp only [answer_outputs, State.irq, State.ie0, State.ie1, State.reg, hregs, flagBit, Bool.or_eq_true,
      Bool.and_eq_true]
    rfl

/-- Settles O32, by induction on the lines of the frame; its last line step begins the next one. -/
theorem aFrameIsLinesPerFrameSteps : Obligations.AFrameIsLinesPerFrameSteps := by
  intro s hp hstart hvalid hframe
  refine ⟨fun n hn => ?_, State.lineStep^[s.frameLines] s, linesFrom_eq_iterate _ s, ?_⟩
  · have h := OnLine.iterate hp hstart hframe hn
    have hactive := region_eq_activeDisplay_iff (h.params ▸ hp) h.beamOk
    rw [h.latched, h.sd] at hactive
    exact ⟨_, linesFrom_eq_iterate n s, h.sd, h.beamOk, h.fault, hactive, h.framePending⟩
  · have hpos : 0 < s.frameLines := Nat.zero_lt_of_lt (frameIntLine_lt_linesPerFrame s.latched.sys s.latched.h)
    obtain ⟨n, hn⟩ := Nat.exists_eq_add_one.mpr hpos
    have h := OnLine.iterate hp hstart hframe (n := n) (by omega)
    rw [hn, Function.iterate_succ_apply']
    refine atFrameStart_lineStep (h.params ▸ hp) h.beamOk ?_ (h.inputs ▸ hvalid) h.fault
    rw [State.frameLines, h.latched, h.sd]
    exact hn.symm

end Machine

end Sys2Proof
end

section
/-! Proofs of the Mode 4 background family (43_background_mode4). First the sprite pass of a line without sprites and what
such a line leaves in the state; then the fields of a name-table entry and each quantity of the slot loop; then the
obligation. -/

namespace Sys2Proof.Machine

/-! ## A line that no sprite covers (45_sprites R251 to R253, R259) -/

theorem spriteTop_eq_topLine (attrY : Byte) : spriteTop attrY = topLine attrY.toNat := by
  unfold spriteTop topLine
  split <;> omega

theorem spriteRow_isSome (attrY : Byte) (line h : Nat) :
    (spriteRow attrY line h).isSome =
      (decide (topLine attrY.toNat ≤ line) && decide ((line : Int) < topLine attrY.toNat + h)) := by
  rw [Bool.eq_iff_iff]
  simp only [spriteRow, spriteTop_eq_topLine, Option.isSome_ite, Bool.and_eq_true, decide_eq_true_eq]
  omega

section
variable (s : State)

theorem shiftLeft_zoom (n : Nat) : n <<< s.zoom = n * s.magnification := by
  rw [Nat.shiftLeft_eq, State.zoom, State.magnification, State.mag]
  cases (s.reg 1).getLsbD 0 <;> simp

/-- The written-out cover test is the one the walk makes. -/
theorem modernCovers_eq (i y : Nat) : s.modernCovers i y = (spriteRow (s.modernY i) y s.modernHeight).isSome := by
  rw [spriteRow_isSome, State.modernHeight, shiftLeft_zoom]
  rfl

theorem modernEnd_eq (i : Nat) :
    s.modernEnd i = (decide (s.latched.h = .h192) && decide (s.vramNat (s.modernTable + i) = 0xD0)) :=
  congrArg (decide (s.latched.h = .h192) && ·) (decide_eq_decide.mpr BitVec.toNat_inj.symm)

/-- The walk changes nothing where no entry before the end of the table covers the line. -/
theorem modernWalk_of_uncovered (y : Nat) (entries : List Nat) :
    (entries.takeWhile fun i => !s.modernEnd i).filter (fun i => s.modernCovers i y) = [] →
    ∀ count w, s.modernWalk y entries count w = w := by
  induction entries with
  | nil => exact fun _ _ _ => rfl
  | cons i rest ih =>
    intro hnone count w
    rw [State.modernWalk]
    by_cases hend : s.modernEnd i = true
    · rw [if_pos hend]
    · rw [List.takeWhile_cons_of_pos (by simpa using hend), List.filter_eq_nil_iff, List.forall_mem_cons,
        modernCovers_eq, Bool.not_eq_true, Option.isSome_eq_false_iff, Option.isNone_iff_eq_none] at hnone
      rw [if_neg hend, hnone.left]
      exact ih (List.filter_eq_nil_iff.mpr hnone.right) count w

theorem modernSprites_of_uncovered {y : Nat} (hfound : s.modernFound y = []) (w : LineWork) :
    s.modernSprites y w = w := by
  unfold State.modernFound at hfound
  simp only [← modernEnd_eq] at hfound
  exact modernWalk_of_uncovered s y _ hfound 0 w

end

/-! ## What a displayed line without sprites leaves (42_beam R167) -/

/-- A sprite pass without collision and overflow sets no flag. -/
theorem afterSprites_none (f : Flags) : f.afterSprites false none = f := by
  rw [Flags.afterSprites.eq_def, Bool.or_false]

/-- When the line work sets no sprite flag and no sprite pixel, the line is its row and its foreground flags. -/
theorem plainLine_renderLineWith {s : State} {rr : Renderer} {row : Row} {fg : BitVec 256} (hblk : s.blk = true)
    (hsd : s.beam.sd < 240)
    (hwork : s.lineWork rr s.beam.sd (rr.backdrop s) = ⟨row, { Scratch.clear with fg := fg }, false, none⟩)
    {pixel : Nat → Colour} (hrow : ∀ (x : Nat) (h : x < 256), row[x] = pixel x) :
    PlainLine s (s.renderLineWith rr s.beam.sd) (rr.backdrop s) pixel ∧
    (s.renderLineWith rr s.beam.sd).scratch.fg = fg := by
  have hrender : s.renderLineWith rr s.beam.sd =
      { s with
        pb := s.pb.setIfInBounds s.beam.sd row
        cachedBackdrop := rr.backdrop s
        scratch := { Scratch.clear with fg := fg } } := by
    simp only [State.renderLineWith, hblk, if_true, hwork, afterSprites_none]
  refine ⟨⟨?_, fun x hx => ?_, fun y x => renderLineWith_pixel_other s rr s.beam.sd y x⟩, ?_⟩
  · rw [hrender]
    rfl
  · rw [renderLineWith_pixel_same s rr hsd hx, if_pos hblk, hwork, hrow x hx]
  · rw [hrender]

theorem lineWork_mode4 {s : State} {y : Nat} (hlayer : s.inputs.cfg.backgroundLayerEnabled = true)
    (hfound : s.modernFound y = []) (bd : Colour) :
    s.lineWork rendererMode4 y bd =
      ⟨Row.ofColumns (s.mode4Pixel y bd), { Scratch.clear with fg := bitsOfColumns (s.mode4Fg y) }, false, none⟩ := by
  have hpass (w : LineWork) : rendererMode4.sprites s y w = w := modernSprites_of_uncovered s hfound w
  have hbackground : rendererMode4.background s y bd =
    (Row.ofColumns (s.mode4Pixel y bd), bitsOfColumns (s.mode4Fg y)) := rfl
  simp only [State.lineWork, hlayer, if_true, hpass, hbackground]

/-! ## The name-table entry (20_memory R65, 30_encoding R88) -/

section
variable (s : State) (y k : Nat)

theorem toNat_nameEntry (ea : Nat) : (s.nameEntry ea).toNat = s.vramNat ea + 256 * s.vramNat (ea + 1) := by
  rw [State.nameEntry, BitVec.toNat_append, ← Nat.shiftLeft_add_eq_or_of_lt (s.vramByte ea).isLt, Nat.shiftLeft_eq,
    State.vramNat, State.vramNat]
  omega

/-- A bit of an entry, as a digit of its value. -/
theorem toNat_getLsbD_entry (w : BitVec 16) (i : Nat) : (w.getLsbD i).toNat = w.toNat / 2 ^ i % 2 := by
  rw [BitVec.getLsbD, Nat.toNat_testBit]

theorem getLsbD_entry_iff (w : BitVec 16) (i : Nat) : w.getLsbD i = true ↔ w.toNat / 2 ^ i % 2 = 1 := by
  rw [← toNat_getLsbD_entry, Bool.toNat_eq_one]

theorem tileIndex_eq (w : BitVec 16) (row p : Nat) :
    s.tileIndex w row p =
      s.planarIndex (w.toNat % 512 * 32 + (if w.toNat / 1024 % 2 = 1 then 7 - row else row) * 4)
        (7 - if w.toNat / 512 % 2 = 1 then 7 - p else p) := by
  simp only [State.tileIndex, entryPat, entryVf, entryHf, getLsbD_entry_iff]
  rfl

/-! ## The slot loop (43_background_mode4 R192 to R198) -/

theorem nameBase4_eq :
    s.nameBase4 =
      if s.latched.h = .h192 then (s.regNat 2 &&& 0x0E) <<< 10 else ((s.regNat 2 &&& 0x0C) <<< 10) ||| 0x700 := by
  cases h : s.latched.h <;> simp [State.nameBase4, h]

theorem wrapRows_eq (h : Height) : wrapRows h = if h = .h192 then 224 else 256 := by
  cases h <;> rfl

theorem vrow_eq :
    s.vrow y k =
      (y + if (s.reg 0).getLsbD 7 = true ∧ 24 ≤ k then 0 else s.latched.yScroll.toNat) %
        if s.latched.h = .h192 then 224 else 256 := by
  simp only [State.vrow, State.vsl, wrapRows_eq, Bool.and_eq_true, decide_eq_true_eq]

theorem scrollX_eq : s.scrollX y = if (s.reg 0).getLsbD 6 = true ∧ y < 16 then 0 else s.regNat 8 := by
  simp only [State.scrollX, State.hsl, Bool.and_eq_true, decide_eq_true_eq]

theorem coarseX_lt : s.coarseX y < 32 := by
  have hscroll : s.scrollX y < 256 := by
    rw [scrollX_eq]
    split
    · decide
    · exact (s.reg 8).isLt
  rw [State.coarseX, Nat.shiftRight_eq_div_pow]
  omega

theorem fineX_lt : s.fineX y < 8 := Nat.and_lt_two_pow (n := 3) _ (by decide)

/-- The column is taken modulo 32 in the integers (R196). -/
theorem tileCol_eq : s.tileCol y k = (((k : Int) - s.coarseX y) % 32).toNat := by
  have hcoarse := coarseX_lt s y
  unfold State.tileCol
  omega

theorem mirrorActive_iff :
    s.mirrorActive = true ↔
      s.inputs.cfg.supportsMirroredNameTable = true ∧ (s.reg 2).getLsbD 0 = s.params.mirrorOnR2Bit0 := by
  rw [State.mirrorActive, Bool.and_eq_true, beq_iff_eq]

/-- Clearing bit 10 of a VRAM address subtracts it where it is set (R193). -/
theorem and_0x3BFF {a : Nat} (ha : a < 0x4000) : a &&& 0x3BFF = if a / 0x400 % 2 = 1 then a - 0x400 else a := by
  have hhigh : (a &&& 0x3BFF) / 2 ^ 10 = a / 0x400 &&& 14 := Nat.and_div_two_pow
  have hlow : (a &&& 0x3BFF) % 2 ^ 10 = a % 0x400 := by
    rw [Nat.and_mod_two_pow]
    exact Nat.and_two_pow_sub_one_of_lt_two_pow (n := 10) (Nat.mod_lt a (by decide))
  have hfield : ∀ q < 16, q &&& 14 = if q % 2 = 1 then q - 1 else q := by decide
  rw [hfield _ (by omega)] at hhigh
  split
  · next hset =>
    rw [if_pos hset] at hhigh
    omega
  · next hclear =>
    rw [if_neg hclear] at hhigh
    omega

theorem entryAddr_eq :
    s.entryAddr y k =
      (let ea := (s.nameBase4 + (s.vrow y k >>> 3) * 64 + s.tileCol y k * 2) % 0x4000
       if (s.inputs.cfg.supportsMirroredNameTable = true ∧ (s.reg 2).getLsbD 0 = s.params.mirrorOnR2Bit0) ∧
          ea / 0x400 % 2 = 1 then ea - 0x400 else ea) := by
  simp only [← mirrorActive_iff, ite_and]
  rw [State.entryAddr, and_0x3BFF (Nat.mod_lt _ (by decide))]

/-- The entry shown at the column of pixel p of slot k is that of slot k (R196). -/
theorem entryAt_column {p : Nat} (hk : k < 32) (hp : p < 8) :
    s.entryAt y ((k * 8 + s.fineX y + p) % 256) = s.nameEntry (s.entryAddr y k) := by
  rw [State.entryAt, (slotOf_column k p _ hk hp (fineX_lt s y)).left]

/-- The colour index shown there is that of pixel p of its tile (R196, R199). -/
theorem indexAt_column {p : Nat} (hk : k < 32) (hp : p < 8) :
    s.indexAt y ((k * 8 + s.fineX y + p) % 256) = s.tileIndex (s.nameEntry (s.entryAddr y k)) (s.vrow y k % 8) p := by
  obtain ⟨hslot, hpixel⟩ := slotOf_column k p _ hk hp (fineX_lt s y)
  rw [State.indexAt, entryAt_column s y k hk hp, hslot, hpixel]

/-! ## The pixel and the foreground flag (R197, R200, R201) -/

theorem mode4Pixel_eq (bd : Colour) (x : Nat) :
    s.mode4Pixel y bd x =
      if (s.reg 0).getLsbD 5 = true ∧ x < 8 then bd
      else s.cramColour (s.indexAt y x + 16 * ((s.entryAt y x).toNat / 2048 % 2)) := by
  simp only [State.mode4Pixel, State.lcb, Bool.and_eq_true, decide_eq_true_eq, entryPal, toNat_getLsbD_entry]
  rfl

theorem mode4Fg_iff (x : Nat) :
    s.mode4Fg y x = true ↔
      ¬ ((s.reg 0).getLsbD 5 = true ∧ x < 8) ∧ (s.entryAt y x).toNat / 4096 % 2 = 1 ∧ s.indexAt y x ≠ 0 := by
  rw [State.mode4Fg, State.lcb, entryPri, Bool.and_eq_true, Bool.and_eq_true, Bool.not_eq_true', ← Bool.not_eq_true,
    Bool.and_eq_true, decide_eq_true_eq, decide_eq_true_eq, getLsbD_entry_iff, and_assoc]
  rfl

end

/-! ## The obligation -/

/-- Settles O39: without sprites the line is the Mode 4 background, whose column (8k + fine + p) mod 256 is found again as
pixel p of slot k. -/
theorem mode4Line : Obligations.Mode4Line := by
  intro s hsel m3 m2 m1 hblk hlayer hsd hfound
  obtain ⟨hplain, hfg⟩ := plainLine_renderLineWith (rr := rendererMode4) hblk hsd (lineWork_mode4 hlayer hfound _)
    (fun x hx => Row.ofColumns_get _ x hx)
  refine ⟨s.renderLineWith rendererMode4 s.beam.sd, rfl, ⟨_, hplain⟩, ?_⟩
  intro k p hk hp scrollX coarse fine nt wrap ys vrow col ea0 mirror ea w fr c plane ci x blanked
  obtain ⟨-, hpixel, -⟩ := hplain
  have hfine : s.fineX s.beam.sd = fine := congrArg (· &&& 7) (scrollX_eq s s.beam.sd)
  have hcoarse : s.coarseX s.beam.sd = coarse := congrArg (· >>> 3) (scrollX_eq s s.beam.sd)
  have hvrow : s.vrow s.beam.sd k = vrow := vrow_eq s s.beam.sd k
  have hcol : s.tileCol s.beam.sd k = col := by rw [tileCol_eq, hcoarse]
  have hea : s.entryAddr s.beam.sd k = ea := by
    rw [entryAddr_eq, nameBase4_eq, hvrow, hcol]
  have hw : (s.nameEntry ea).toNat = w := toNat_nameEntry s ea
  have hentry : s.entryAt s.beam.sd x = s.nameEntry ea := by
    rw [← hea, ← entryAt_column s s.beam.sd k hk hp, hfine]
  have hindex : s.indexAt s.beam.sd x = ci := by
    have hcolumn := indexAt_column s s.beam.sd k hk hp
    rw [hfine, hea, hvrow, tileIndex_eq, hw] at hcolumn
    rw [hcolumn, ← Nat.and_two_pow_sub_one_eq_mod vrow 3]
    rfl
  have hx : x < 256 := Nat.mod_lt _ (by decide)
  constructor
  · rw [hpixel x hx, mode4Pixel_eq, hentry, hw, hindex]
    rfl
  · rw [hfg, bitsOfColumns_getLsbD _ x hx, mode4Fg_iff, hentry, hw, hindex]

end Sys2Proof.Machine
end

section
/-! Proofs of the legacy background family (44_background_legacy). First the legacy sprite pass of a line that no sprite
covers, what such a line leaves with the background layer on and off, and a line with the display off; then what the
renderers without Mode 4 have in common, and their pixels; then the obligations. -/

namespace Sys2Proof.Machine

/-! ## A line that no legacy sprite covers (45_sprites R251, R265, R266, R272) -/

section
variable (s : State)

/-- The written-out cover test is the one the walk makes. -/
theorem legacyCovers_eq (i y : Nat) :
    s.legacyCovers i y = (spriteRow (s.legacyByte i 0) y (s.legacySize <<< s.zoom)).isSome := by
  rw [spriteRow_isSome, shiftLeft_zoom]
  rfl

theorem legacyByte_zero_eq_iff (i : Nat) : s.legacyByte i 0 = 0xD0 ↔ s.vramNat (s.legacyTable + 4 * i) = 0xD0 :=
  BitVec.toNat_inj.symm

/-- The walk changes nothing where no entry before the end of the table covers the line. -/
theorem legacyWalk_of_uncovered (y : Nat) (entries : List Nat) :
    (entries.takeWhile fun i => decide (s.vramNat (s.legacyTable + 4 * i) ≠ 0xD0)).filter (fun i => s.legacyCovers i y) = [] →
    ∀ count w, s.legacyWalk y entries count w = w := by
  induction entries with
  | nil => exact fun _ _ _ => rfl
  | cons i rest ih =>
    intro hnone count w
    rw [State.legacyWalk]
    by_cases hend : s.legacyByte i 0 = 0xD0
    · rw [if_pos hend]
    · have hlisted := mt (legacyByte_zero_eq_iff s i).mpr hend
      rw [List.takeWhile_cons_of_pos (by simpa using hlisted), List.filter_eq_nil_iff, List.forall_mem_cons,
        legacyCovers_eq, Bool.not_eq_true, Option.isSome_eq_false_iff, Option.isNone_iff_eq_none] at hnone
      rw [if_neg hend, hnone.left]
      exact ih (List.filter_eq_nil_iff.mpr hnone.right) count w

theorem legacySprites_of_uncovered {y : Nat} (hfound : s.legacyFound y = []) (w : LineWork) :
    s.legacySprites y w = w :=
  legacyWalk_of_uncovered s y _ hfound 0 w

/-- Where no entry of either table covers the line, no renderer's sprite pass changes it. -/
theorem sprites_of_uncovered {i : Instr} {rr : Renderer} (hrr : rendererOf i = some rr) {y : Nat}
    (hmodern : s.modernFound y = []) (hlegacy : s.legacyFound y = []) (w : LineWork) : rr.sprites s y w = w := by
  obtain rfl | rfl | rfl | rfl | rfl | rfl := rendererOf_cases hrr
  · exact modernSprites_of_uncovered s hmodern w
  · exact legacySprites_of_uncovered s hlegacy w
  · exact legacySprites_of_uncovered s hlegacy w
  · exact legacySprites_of_uncovered s hlegacy w
  · rfl
  · rfl

end

/-! ## What one line leaves (42_beam R167, 44_background_legacy R236, R237) -/

theorem exec_of_rendererOf {i : Instr} {rr : Renderer} (hrr : rendererOf i = some rr) (s : State) :
    exec i s = .next (s.renderLineWith rr s.beam.sd) := exec_of_effect (.render hrr)

theorem cachedBackdrop_renderLineWith (s : State) (rr : Renderer) (y : Nat) :
    (s.renderLineWith rr y).cachedBackdrop = rr.backdrop s := by
  rw [renderLineWith_frame]

section
variable {s : State} {rr : Renderer}

/-- With the display off the line is all backdrop and the scratch arrays are clear (R236). -/
theorem renderLineWith_displayOff (hblk : s.blk = false) (y : Nat) :
    s.renderLineWith rr y =
      { s with
        pb := s.pb.setIfInBounds y (Row.fill (rr.backdrop s))
        cachedBackdrop := rr.backdrop s
        scratch := Scratch.clear } := by
  simp [State.renderLineWith, hblk]

/-- A sprite pass that changes nothing leaves the row that the layer switch chooses and the background's foreground flags. -/
theorem lineWork_unsprited {y : Nat} (hpass : ∀ w, rr.sprites s y w = w) (bd : Colour) :
    s.lineWork rr y bd =
      ⟨if s.inputs.cfg.backgroundLayerEnabled then (rr.background s y bd).1 else Row.fill bd,
        { Scratch.clear with fg := (rr.background s y bd).2 }, false, none⟩ :=
  hpass _

section
variable (hblk : s.blk = true) (hpass : ∀ w, rr.sprites s s.beam.sd w = w) (hsd : s.beam.sd < 240)
include hblk hpass

/-- Without sprites the scratch arrays hold the foreground flags of the background, with the layer on or off. -/
theorem scratch_renderLineWith_unsprited :
    (s.renderLineWith rr s.beam.sd).scratch =
      { Scratch.clear with fg := (rr.background s s.beam.sd (rr.backdrop s)).2 } := by
  simp only [State.renderLineWith, lineWork_unsprited hpass, hblk, if_true]

include hsd

/-- With the layer on and no sprite, the line is the background line. -/
theorem plainLine_layerOn (hlayer : s.inputs.cfg.backgroundLayerEnabled = true) {pixel : Nat → Colour}
    (hrow : ∀ (x : Nat) (h : x < 256), (rr.background s s.beam.sd (rr.backdrop s)).1[x] = pixel x) :
    PlainLine s (s.renderLineWith rr s.beam.sd) (rr.backdrop s) pixel :=
  (plainLine_renderLineWith hblk hsd (lineWork_unsprited hpass _) (by simpa only [hlayer, if_true] using hrow)).left

/-- With the layer off and no sprite, the line is all backdrop (R237). -/
theorem plainLine_layerOff (hlayer : s.inputs.cfg.backgroundLayerEnabled = false) :
    PlainLine s (s.renderLineWith rr s.beam.sd) (rr.backdrop s) fun _ => rr.backdrop s :=
  (plainLine_renderLineWith hblk hsd (lineWork_unsprited hpass _) (by simp [hlayer])).left

end

end

/-! ## The layer switch (R237) -/

/-- The same state with the background layer on. -/
def State.withLayerOn (s : State) : State :=
  { s with inputs := { s.inputs with cfg := { s.inputs.cfg with backgroundLayerEnabled := true } } }

/-- No backdrop or background reads the layer switch. -/
theorem backdrop_background_withLayerOn {i : Instr} {rr : Renderer} (hrr : rendererOf i = some rr) (s : State) :
    rr.backdrop s.withLayerOn = rr.backdrop s ∧ rr.background s.withLayerOn = rr.background s := by
  obtain rfl | rfl | rfl | rfl | rfl | rfl := rendererOf_cases hrr <;> exact ⟨rfl, rfl⟩

/-! ## The renderers without Mode 4 -/

/-- The renderers of this family: Graphics I, Graphics II, Multicolour, Text and the fallback (30_encoding R82). -/
inductive Renderer.Legacy : Renderer → Prop
  | graphics1 : Legacy rendererGraphics1
  | graphics2 : Legacy rendererGraphics2
  | multicolour : Legacy rendererMulticolour
  | text : Legacy rendererText
  | fallback : Legacy rendererFallback

theorem exists_legacy_rendererOf {i : Instr} {hsel : BitVec 2}
    (hi : i = .graphics1 hsel ∨ i = .graphics2 hsel ∨ i = .multicolour hsel ∨ i = .text hsel ∨
      i = .fallback3 hsel ∨ i = .fallback5 hsel ∨ i = .fallback6 hsel ∨ i = .fallback7 hsel) :
    ∃ rr, rendererOf i = some rr ∧ rr.Legacy := by
  obtain rfl | rfl | rfl | rfl | rfl | rfl | rfl | rfl := hi
  · exact ⟨_, rfl, .graphics1⟩
  · exact ⟨_, rfl, .graphics2⟩
  · exact ⟨_, rfl, .multicolour⟩
  · exact ⟨_, rfl, .text⟩
  all_goals exact ⟨_, rfl, .fallback⟩

theorem fg_legacySprites (s : State) (y : Nat) (w : LineWork) : (s.legacySprites y w).scratch.fg = w.scratch.fg := by
  refine legacySprites_keeps (P := fun v => v.scratch.fg = w.scratch.fg) s y w (fun colour x v hv => ?_)
    (fun _ _ hv => hv) rfl
  unfold State.plotLegacy
  dsimp only
  split <;> exact hv

namespace Renderer.Legacy
variable {rr : Renderer} (hrr : rr.Legacy)
include hrr

theorem backdrop (s : State) : rr.backdrop s = s.fixedColour (s.regNat 7 &&& 0x0F) := by
  cases hrr <;> rfl

theorem background_fg (s : State) (y : Nat) (bd : Colour) : (rr.background s y bd).2 = 0 := by
  cases hrr <;> rfl

theorem sprites_fg (s : State) (y : Nat) (w : LineWork) : (rr.sprites s y w).scratch.fg = w.scratch.fg := by
  cases hrr with
  | graphics1 | graphics2 | multicolour => exact fg_legacySprites s y w
  | text | fallback => rfl

/-- FG stays 0, with the display on or off, whatever sprites are drawn (R230). -/
theorem renderLineWith_fg (s : State) (y : Nat) : (s.renderLineWith rr y).scratch.fg = 0 := by
  cases hblk : s.blk with
  | false => rw [renderLineWith_displayOff hblk]; rfl
  | true =>
    simp only [State.renderLineWith, State.lineWork, hblk, if_true, hrr.sprites_fg]
    exact hrr.background_fg s y _

/-- What these renderers read of two states decides what they do. -/
theorem alike {s u : State} (h : LegacyAlike s u) : rr.Alike s u := by
  cases hrr with
  | graphics1 => exact h.rendererGraphics1
  | graphics2 => exact h.rendererGraphics2
  | multicolour => exact h.rendererMulticolour
  | text => exact h.rendererText
  | fallback => exact h.rendererFallback

end Renderer.Legacy

/-- A displayed line of a legacy background by columns, without sprites. -/
theorem legacyLine_completes {s : State} {i : Instr} {pixel : State → Nat → Colour → Nat → Colour}
    {sprites : State → Nat → LineWork → LineWork}
    (hrr : rendererOf i = some ⟨State.legacyBackdrop, legacyBackground pixel, sprites⟩) (hblk : s.blk = true)
    (hlayer : s.inputs.cfg.backgroundLayerEnabled = true) (hsd : s.beam.sd < 240)
    (hpass : ∀ w, sprites s s.beam.sd w = w) {column : Nat → Colour}
    (hcolumn : ∀ x, pixel s s.beam.sd s.legacyBackdrop x = column x) :
    Completes i s fun t => t.scratch.fg = 0 ∧ PlainLine s t s.legacyBackdrop column := by
  refine ⟨_, exec_of_rendererOf hrr s, ?_, plainLine_layerOn hblk hpass hsd hlayer fun x hx => ?_⟩
  · rw [scratch_renderLineWith_unsprited hblk hpass]
    rfl
  · exact (Row.ofColumns_get _ x hx).trans (hcolumn x)

/-! ## Pixels (30_encoding R93, 44_background_legacy R221) -/

theorem nibbleColour_legacyBackdrop (s : State) (n : Nat) :
    s.nibbleColour n s.legacyBackdrop = legacyColourOf s n := rfl

/-- The high nibble of a byte. -/
theorem div_sixteen_eq_shiftRight (n : Nat) : n / 16 = n >>> 4 := (Nat.shiftRight_eq_div_pow n 4).symm

/-- The low nibble of a byte. -/
theorem mod_sixteen_eq_and (n : Nat) : n % 16 = n &&& 0x0F := (Nat.and_two_pow_sub_one_eq_mod n 4).symm

theorem chooseNibble_eq (set : Bool) (cbyte : Nat) :
    chooseNibble set cbyte = if set then cbyte >>> 4 else cbyte &&& 0x0F := by
  rw [chooseNibble, div_sixteen_eq_shiftRight, mod_sixteen_eq_and]

/-- The row of a line, or the column of a pixel, inside its 8 by 8 cell. -/
theorem mod_eight_eq_and (n : Nat) : n % 8 = n &&& 7 := (Nat.and_two_pow_sub_one_eq_mod n 3).symm

/-- The 4-pixel half of the cell that a column lies in (R225). -/
theorem and_four_eq_zero_iff (x : Nat) : x &&& 4 = 0 ↔ x / 4 % 2 = 0 := by
  have hbit : x &&& 4 = (x.testBit 2).toNat * 4 := Nat.and_two_pow x 2
  rw [hbit, Nat.toNat_testBit]
  omega

/-- An address already taken modulo the size of VRAM reads the same byte (20_memory R61). -/
theorem vramByte_mod (s : State) (a : Nat) : s.vramByte (a % 0x4000) = s.vramByte a := by
  rw [State.vramByte, Nat.mod_mod, State.vramByte]

theorem vramNat_mod (s : State) (a : Nat) : s.vramNat (a % 0x4000) = s.vramNat a :=
  congrArg BitVec.toNat (vramByte_mod s a)

/-! ## What scroll and mirroring can change (44_background_legacy R230) -/

/-- The same state with another R[r], another latched Y scroll and another mirroring capability. -/
def State.rescrolled (s : State) (r : BitVec 4) (v ys : Byte) (mirror : Bool) : State :=
  { s.setReg r v with
    latched := { s.latched with yScroll := ys }
    inputs := { s.inputs with cfg := { s.inputs.cfg with supportsMirroredNameTable := mirror } } }

theorem legacyAlike_rescrolled (s : State) {r : BitVec 4} (hr : r = 0 ∨ r = 8 ∨ r = 9) (v ys : Byte) (mirror : Bool) :
    LegacyAlike s (s.rescrolled r v ys mirror) where
  reg i hlo hhi := by
    have hne : r.toNat ≠ i.val := by
      obtain rfl | rfl | rfl := hr <;> simp <;> omega
    simp [State.rescrolled, State.reg, hne]
  vram := rfl
  params := rfl
  palette := rfl
  cap := rfl
  layer := rfl
  pb := rfl
  flags := rfl

/-! ## The obligations -/

/-- Settles O33: with BLK clear rendering only fills the line, and each renderer's backdrop is that of its mode. -/
theorem displayOffFillsTheLine : Obligations.DisplayOffFillsTheLine := by
  intro s i hsel m3 m2 m1 hblk hsd hi
  have hrenderer : ∃ rr, rendererOf i = some rr ∧ rr.backdrop s =
      if i = .mode4 hsel m3 m2 m1 then s.cramColour (16 + (s.regNat 7 &&& 0x0F))
      else s.fixedColour (s.regNat 7 &&& 0x0F) := by
    obtain rfl | hlegacy := hi
    · exact ⟨rendererMode4, rfl, (if_pos rfl).symm⟩
    · obtain ⟨rr, hrr, hkind⟩ := exists_legacy_rendererOf hlegacy
      have hne : i ≠ .mode4 hsel m3 m2 m1 := by
        rintro rfl
        simp at hlegacy
      exact ⟨rr, hrr, by rw [if_neg hne, hkind.backdrop]⟩
  obtain ⟨rr, hrr, hbd⟩ := hrenderer
  have hoff : s.blk = false := hblk
  refine ⟨_, exec_of_rendererOf hrr s, ?_⟩
  rw [← hbd]
  refine ⟨?_, fun x hx => ?_, fun y x => renderLineWith_pixel_other s rr s.beam.sd y x⟩
  · rw [renderLineWith_displayOff hoff]
    rfl
  · rw [renderLineWith_pixel_same s rr hsd hx, if_neg (by simp [hoff])]

/-- Settles O34: the pattern bit chooses a nibble of the colour byte of the name's group of eight. -/
theorem graphics1Line : Obligations.Graphics1Line := by
  intro s hsel hblk hlayer hsd hfound
  refine legacyLine_completes (i := .graphics1 hsel) rfl hblk hlayer hsd (legacySprites_of_uncovered s hfound) fun x => ?_
  simp only [State.graphics1Pixel, nibbleColour_legacyBackdrop, chooseNibble_eq, mod_eight_eq_and]
  rfl

/-- Settles O35: the same choice, from the two masked addresses, which VRAM's wrapping leaves as they are. -/
theorem graphics2Line : Obligations.Graphics2Line := by
  intro s hsel hblk hlayer hsd hfound
  refine legacyLine_completes (i := .graphics2 hsel) rfl hblk hlayer hsd (legacySprites_of_uncovered s hfound) fun x => ?_
  simp only [State.graphics2Pixel, State.patAddrII, State.colAddrII, vramByte_mod, vramNat_mod,
    nibbleColour_legacyBackdrop, chooseNibble_eq, mod_eight_eq_and]
  rfl

/-- Settles O36: bit 2 of the column chooses the nibble of the block byte. -/
theorem multicolourLine : Obligations.MulticolourLine := by
  intro s hsel hblk hlayer hsd hfound
  refine legacyLine_completes (i := .multicolour hsel) rfl hblk hlayer hsd (legacySprites_of_uncovered s hfound) fun x => ?_
  simp only [State.multicolourPixel, nibbleColour_legacyBackdrop, and_four_eq_zero_iff, div_sixteen_eq_shiftRight,
    mod_sixteen_eq_and]
  rfl

/-- Settles O37: between the borders the pattern bit chooses a nibble of R[7]; the Text renderer has no sprite pass. -/
theorem textLine : Obligations.TextLine := by
  intro s hsel hblk hlayer hsd
  refine legacyLine_completes (i := .text hsel) rfl hblk hlayer hsd (fun _ => rfl) fun x => ?_
  simp only [State.textPixel, nibbleColour_legacyBackdrop, chooseNibble_eq, mod_eight_eq_and]
  rfl

/-- Settles O38: the fallback's background is the backdrop, which is also what replaces it with the layer off. -/
theorem fallbackFillsTheLine : Obligations.FallbackFillsTheLine := by
  intro s hsel i hblk hsd hi
  have hrr : rendererOf i = some rendererFallback := by
    obtain rfl | rfl | rfl | rfl := hi <;> rfl
  have hpass (w : LineWork) : rendererFallback.sprites s s.beam.sd w = w := rfl
  refine ⟨_, exec_of_rendererOf hrr s, Renderer.Legacy.fallback.renderLineWith_fg s _, ?_⟩
  cases hlayer : s.inputs.cfg.backgroundLayerEnabled with
  | true => exact plainLine_layerOn hblk hpass hsd hlayer (Row.fill_get _)
  | false => exact plainLine_layerOff hblk hpass hsd hlayer

/-- Settles O40: without sprites the switch decides the row only, and no backdrop or background reads it. -/
theorem layerOffKeepsForegroundFlags : Obligations.LayerOffKeepsForegroundFlags := by
  intro s i hsel m3 m2 m1 hblk hsd hmodern hlegacy hlayer hi
  have hrenderer : ∃ rr, rendererOf i = some rr := by
    obtain rfl | rfl | rfl | rfl | rfl := hi <;> exact ⟨_, rfl⟩
  obtain ⟨rr, hrr⟩ := hrenderer
  obtain ⟨hbackdrop, hbackground⟩ := backdrop_background_withLayerOn hrr s
  have hpass := sprites_of_uncovered s hrr hmodern hlegacy
  have hpassOn : ∀ w, rr.sprites s.withLayerOn s.withLayerOn.beam.sd w = w :=
    sprites_of_uncovered s.withLayerOn hrr hmodern hlegacy
  obtain ⟨hframe, hpixel, -⟩ := plainLine_layerOff hblk hpass hsd hlayer
  refine ⟨_, _, exec_of_rendererOf hrr s, exec_of_rendererOf hrr s.withLayerOn, ?_, by rw [hframe], ?_, fun x hx => ?_⟩
  · rw [scratch_renderLineWith_unsprited hblk hpass, scratch_renderLineWith_unsprited (s := s.withLayerOn) hblk hpassOn,
      hbackground, hbackdrop]
    rfl
  · rw [cachedBackdrop_renderLineWith, cachedBackdrop_renderLineWith, hbackdrop]
  · rw [cachedBackdrop_renderLineWith, hpixel x hx]

/-- Settles O56: what is changed lies outside what these renderers read, so they render the same line into both states. -/
theorem legacyModesIgnoreScroll : Obligations.LegacyModesIgnoreScroll := by
  intro s t i hsel r v ys mirror hi hr hexec
  obtain ⟨rr, hrr, hkind⟩ := exists_legacy_rendererOf hi
  obtain rfl := Host.Outcome.next.inj ((exec_of_rendererOf hrr s).symm.trans hexec)
  have hlook := legacyAlike_rescrolled s hr v ys mirror
  have hline := hlook.renderLineWith (hkind.alike hlook) s.beam.sd
  refine ⟨hkind.renderLineWith_fg s _, (exec_of_rendererOf hrr (s.rescrolled r v ys mirror)).trans
    (congrArg Host.Outcome.next (hline.trans ?_))⟩
  rw [renderLineWith_frame s]
  rfl

end Sys2Proof.Machine
end

section
/-! Proofs of the sprite family (45_sprites). First the walk over a sprite table as one list of entries drawn; then what the
drawing leaves in one column and in the cells of a collision array, by pixel, by entry and by line, for the modern and for
the legacy format; then which flags a line step can set, and the obligations. -/

namespace Sys2Proof.Machine

/-! ## The walk over the entries (R252, R255, R265, R268) -/

/-- The sprite row shown on a covered line is counted from the top line (R251). -/
theorem spriteRow_eq (attrY : Byte) (line h : Nat) :
    spriteRow attrY line h =
      if (spriteRow attrY line h).isSome then some (line - topLine attrY.toNat).toNat else none := by
  unfold spriteRow
  rw [spriteTop_eq_topLine]
  dsimp only
  split <;> rfl

/-- Draw the entries found on a line, in table order, up to the cap; the first entry past the cap overflows. -/
def drawFound (draw : Nat → LineWork → LineWork) (found : List Nat) (cap : Nat) (w : LineWork) : LineWork :=
  { (found.take cap).foldl (fun w i => draw i w) w with overflow := found[cap]?.or w.overflow }

theorem drawFound_nil (draw : Nat → LineWork → LineWork) (cap : Nat) (w : LineWork) :
    drawFound draw [] cap w = w := by
  rw [drawFound, List.take_nil, List.getElem?_nil]
  rfl

/-- The equations of a walk over table entries: it ends at the first entry that is not listed, skips an entry that does
not cover the line, and draws the others until as many as the cap were found. -/
structure SpriteWalk (listed covers : Nat → Bool) (cap : Nat) (draw : Nat → LineWork → LineWork)
    (walk : List Nat → Nat → LineWork → LineWork) : Prop where
  nil  : ∀ count w, walk [] count w = w
  stop : ∀ {i} rest count w, listed i = false → walk (i :: rest) count w = w
  skip : ∀ {i} rest count w, listed i = true → covers i = false → walk (i :: rest) count w = walk rest count w
  draw : ∀ {i} rest {count} w, listed i = true → covers i = true → count < cap →
    walk (i :: rest) count w = walk rest (count + 1) (draw i w)
  full : ∀ {i} rest {count} w, listed i = true → covers i = true → cap ≤ count →
    walk (i :: rest) count w = { w with overflow := some i }

/-- With `room` below the cap, a walk draws the entries that its list holds for the line, up to that many. -/
theorem SpriteWalk.eq_drawFound {listed covers : Nat → Bool} {cap : Nat} {draw : Nat → LineWork → LineWork}
    {walk : List Nat → Nat → LineWork → LineWork} (h : SpriteWalk listed covers cap draw walk)
    (hdraw : ∀ i w, (draw i w).overflow = w.overflow) (entries : List Nat) :
    ∀ room count w, count + room = cap →
      walk entries count w = drawFound draw ((entries.takeWhile listed).filter covers) room w := by
  induction entries with
  | nil => exact fun room count w _ => (h.nil count w).trans (drawFound_nil draw room w).symm
  | cons i rest ih =>
    intro room count w hroom
    cases hlisted : listed i with
    | false =>
      rw [h.stop rest count w hlisted, List.takeWhile_cons_of_neg (by simp [hlisted]), List.filter_nil, drawFound_nil]
    | true =>
      rw [List.takeWhile_cons_of_pos hlisted]
      cases hcovers : covers i with
      | false =>
        rw [h.skip rest count w hlisted hcovers, ih room count w hroom, List.filter_cons_of_neg (by simp [hcovers])]
      | true =>
        rw [List.filter_cons_of_pos hcovers]
        cases room with
        | zero => exact h.full rest w hlisted hcovers (by omega)
        | succ room =>
          rw [h.draw rest w hlisted hcovers (by omega), ih room (count + 1) _ (by omega), drawFound, hdraw]
          rfl

/-! ## One column of a line -/

/-- Column `c` of the line: its foreground flag, what the background shows there, and the sprite colour drawn over it. -/
structure Column (c : Nat) (fg : Bool) (background : Colour) (sprite : Option Colour) (w : LineWork) : Prop where
  fg     : w.scratch.fg.getLsbD c = fg
  drawn  : w.scratch.sprDrawn.getLsbD c = sprite.isSome
  colour : ∀ h : c < 256, w.row[c] = sprite.getD background

section
variable {c : Nat} {fg : Bool} {background : Colour}

/-- If every step of a list gives a column a colour or none, the column shows the first colour given. -/
theorem Column.foldl {α : Type} {draw : LineWork → α → LineWork} {paint : α → Option Colour} (l : List α)
    (hdraw : ∀ a ∈ l, ∀ sprite w, Column c fg background sprite w →
      Column c fg background (sprite.or (paint a)) (draw w a)) :
    ∀ sprite w, Column c fg background sprite w →
      Column c fg background (sprite.or (l.findSome? paint)) (l.foldl draw w) := by
  induction l with
  | nil => exact fun sprite w hw => by rwa [List.findSome?_nil, Option.or_none]
  | cons a l ih =>
    intro sprite w hw
    obtain ⟨hfirst, hrest⟩ := List.forall_mem_cons.mp hdraw
    have hpaint : (a :: l).findSome? paint = (paint a).or (l.findSome? paint) := by
      rw [List.findSome?_cons]
      cases paint a <;> rfl
    rw [hpaint, ← Option.or_assoc]
    exact ih hrest _ _ (hfirst sprite w hw)

/-- A column shows what the first of the entries drawn gives it. -/
theorem Column.drawFound {draw : Nat → LineWork → LineWork} {found : List Nat} {cap : Nat} {paint : Nat → Option Colour}
    (hdraw : ∀ i ∈ found.take cap, ∀ sprite w, Column c fg background sprite w →
      Column c fg background (sprite.or (paint i)) (draw i w))
    {w : LineWork} (hw : Column c fg background none w) :
    Column c fg background ((found.take cap).findSome? paint) (drawFound draw found cap w) := by
  obtain ⟨hfg, hdrawn, hcolour⟩ := Column.foldl _ hdraw none w hw
  exact ⟨hfg, hdrawn, hcolour⟩

end

/-! ## The cells of a collision array -/

/-- How often each cell of a collision array was plotted: `hits k` times cell `k`. A collision is a cell plotted twice. -/
structure Tally (marked : Scratch → Nat → Bool) (hits : Nat → Nat) (w : LineWork) : Prop where
  marked    : ∀ k, marked w.scratch k = decide (0 < hits k)
  collision : w.collision = true ↔ ∃ k, 2 ≤ hits k

/-- A plot marks its cell and collides if the cell is marked already. -/
theorem Tally.plot {marked : Scratch → Nat → Bool} {hits : Nat → Nat} {w v : LineWork} (h : Tally marked hits w)
    (cell : Nat) (hmark : ∀ k, marked v.scratch k = (marked w.scratch k || decide (cell = k)))
    (hcollision : v.collision = (w.collision || marked w.scratch cell)) :
    Tally marked (fun k => hits k + (decide (cell = k)).toNat) v where
  marked k := by
    rw [hmark, h.marked]
    cases decide (cell = k) <;> simp
  collision := by
    rw [hcollision, Bool.or_eq_true, h.collision, h.marked, decide_eq_true_eq]
    constructor
    · rintro (⟨k, hk⟩ | hcell)
      · exact ⟨k, by omega⟩
      · exact ⟨cell, by simp only [decide_true, Bool.toNat_true]; omega⟩
    · rintro ⟨k, hk⟩
      by_cases heq : cell = k
      · subst heq
        simp only [decide_true, Bool.toNat_true] at hk
        exact .inr (by omega)
      · exact .inl ⟨k, by simpa [heq] using hk⟩

/-- The hits of a list of steps add up. -/
theorem Tally.foldl {α : Type} {marked : Scratch → Nat → Bool} {draw : LineWork → α → LineWork}
    {hit : Nat → α → Bool} (l : List α)
    (hdraw : ∀ a ∈ l, ∀ hits w, Tally marked hits w →
      Tally marked (fun k => hits k + (hit k a).toNat) (draw w a)) :
    ∀ hits w, Tally marked hits w → Tally marked (fun k => hits k + l.countP (hit k)) (l.foldl draw w) := by
  induction l with
  | nil => exact fun hits w hw => hw
  | cons a l ih =>
    intro hits w hw
    obtain ⟨hfirst, hrest⟩ := List.forall_mem_cons.mp hdraw
    have htotal (k : Nat) : hits k + (a :: l).countP (hit k) = hits k + (hit k a).toNat + l.countP (hit k) := by
      rw [List.countP_cons]
      cases hit k a <;> simp [Nat.add_comm, Nat.add_left_comm]
    simp only [htotal]
    exact ih hrest _ _ (hfirst hits w hw)

/-- The entries drawn collide where two of them hit one cell. -/
theorem Tally.drawFound {marked : Scratch → Nat → Bool} {draw : Nat → LineWork → LineWork} {found : List Nat}
    {cap : Nat} {hit : Nat → Nat → Bool}
    (hdraw : ∀ i ∈ found.take cap, ∀ hits w, Tally marked hits w →
      Tally marked (fun k => hits k + (hit k i).toNat) (draw i w))
    {w : LineWork} (hw : Tally marked (fun _ => 0) w) :
    (drawFound draw found cap w).collision = true ↔ ∃ k, twoOf (found.take cap) (hit k) = true := by
  have htally := Tally.foldl _ hdraw _ w hw
  simp only [twoOf, decide_eq_true_eq, ← List.countP_eq_length_filter]
  simp only [Nat.zero_add] at htally
  exact htally.collision

/-! ## The pixel of an entry at a column -/

/-- Of the pixels at `left`, `left + 1`, … of an entry at most one lies at column `x`. -/
theorem filter_range_column (left x : Int) (n : Nat) (p : Nat → Bool) :
    (List.range n).filter (fun q : Nat => decide (left + (q : Int) = x) && p q) =
      if decide (left ≤ x ∧ x < left + n) && p (x - left).toNat then [(x - left).toNat] else [] := by
  by_cases hle : left ≤ x
  · obtain ⟨m, rfl⟩ := Int.le.dest hle
    have hm : (left + (m : Int) - left).toNat = m := by omega
    have hlt : left + (m : Int) < left + n ↔ m < n := by omega
    have hpixel (q : Nat) : (decide (left + (q : Int) = left + m) && p q) = (decide (q = m) && p m) := by
      by_cases hq : q = m
      · simp [hq]
      · have hne : ¬ left + (q : Int) = left + m := by omega
        simp [hq, hne]
    simp only [hpixel, hm, hlt, hle, true_and]
    cases p m with
    | false => simp
    | true => by_cases hmn : m < n <;> simp [List.filter_eq, List.count_range, hmn]
  · rw [decide_eq_false (fun h => hle h.left), Bool.false_and, if_neg Bool.false_ne_true, List.filter_eq_nil_iff]
    intro q _
    have hne : ¬ left + (q : Int) = x := by omega
    simp [hne]

/-- The first element with a property decides what a search finds. -/
theorem findSome?_ite {α β : Type} (p : α → Bool) (f : α → β) (l : List α) :
    (l.findSome? fun a => if p a then some (f a) else none) = (l.find? p).map f := by
  induction l with
  | nil => rfl
  | cons a l ih => cases h : p a <;> simp [h, ih]

theorem findSome?_range_column {β : Type} (left x : Int) (n : Nat) (p : Nat → Bool) (f : Nat → β) :
    ((List.range n).findSome? fun q : Nat => if decide (left + (q : Int) = x) && p q then some (f q) else none) =
      if decide (left ≤ x ∧ x < left + n) && p (x - left).toNat then some (f (x - left).toNat) else none := by
  rw [findSome?_ite, ← List.head?_filter, filter_range_column]
  split <;> rfl

theorem countP_range_column (left x : Int) (n : Nat) (p : Nat → Bool) :
    (List.range n).countP (fun q : Nat => decide (left + (q : Int) = x) && p q) =
      (decide (left ≤ x ∧ x < left + n) && p (x - left).toNat).toNat := by
  rw [List.countP_eq_length_filter, filter_range_column]
  cases decide (left ≤ x ∧ x < left + n) && p (x - left).toNat <;> rfl

/-! ## Plotting one pixel -/

/-- Setting a bit inside the array. -/
theorem getLsbD_setBit_of_lt {n : Nat} (v : BitVec n) {i : Nat} (hi : i < n) (j : Nat) :
    (setBit v i).getLsbD j = (v.getLsbD j || decide (i = j)) := by
  rw [setBit_getLsbD]
  by_cases h : i = j
  · simp [← h, hi]
  · simp [h]

/-- The draw half of a plot: the pixel is stored unless it is hidden or a sprite was drawn in its column before. -/
def LineWork.drawPixel (w : LineWork) (hidden : Bool) (k : Nat) (colour : Colour) : LineWork :=
  if hidden || w.scratch.sprDrawn.getLsbD k then w
  else
    { w with
      row := w.row.setIfInBounds k colour
      scratch := { w.scratch with sprDrawn := setBit w.scratch.sprDrawn k } }

/-- The collision half of a modern plot (R258). -/
def LineWork.markModern (w : LineWork) (k : Nat) : LineWork :=
  { w with
    collision := w.collision || w.scratch.collM.getLsbD k
    scratch := { w.scratch with collM := setBit w.scratch.collM k } }

/-- The marked columns of the modern collision array (10_state R52). -/
def Scratch.modernMarks (v : Scratch) : Nat → Bool := v.collM.getLsbD

/-- The collision half of a legacy plot, in the wide array (R270). -/
def LineWork.markLegacy (w : LineWork) (k : Nat) : LineWork :=
  { w with
    collision := w.collision || w.scratch.collL.getLsbD k
    scratch := { w.scratch with collL := setBit w.scratch.collL k } }

/-- The marked cells of the wide collision array: cell `k` is column `k - 32` (10_state R52). -/
def Scratch.legacyMarks (v : Scratch) : Nat → Bool := v.collL.getLsbD

section
variable (w : LineWork) (hidden : Bool) (k : Nat) (colour : Colour)

/-- Drawing writes the row and the drawn flags only. -/
theorem drawPixel_frame :
    w.drawPixel hidden k colour =
      { w with
        row := (w.drawPixel hidden k colour).row
        scratch := { w.scratch with sprDrawn := (w.drawPixel hidden k colour).scratch.sprDrawn } } := by
  unfold LineWork.drawPixel
  split <;> rfl

theorem modernMarks_drawPixel : (w.drawPixel hidden k colour).scratch.modernMarks = w.scratch.modernMarks := by
  rw [drawPixel_frame]
  rfl

theorem legacyMarks_drawPixel : (w.drawPixel hidden k colour).scratch.legacyMarks = w.scratch.legacyMarks := by
  rw [drawPixel_frame]
  rfl

theorem collision_drawPixel : (w.drawPixel hidden k colour).collision = w.collision := by rw [drawPixel_frame]

theorem overflow_drawPixel : (w.drawPixel hidden k colour).overflow = w.overflow := by rw [drawPixel_frame]

theorem modernMarks_markModern {cell : Nat} (hcell : cell < 256) :
    (w.markModern cell).scratch.modernMarks k = (w.scratch.modernMarks k || decide (cell = k)) :=
  getLsbD_setBit_of_lt w.scratch.collM hcell k

theorem legacyMarks_markLegacy {cell : Nat} (hcell : cell < 320) :
    (w.markLegacy cell).scratch.legacyMarks k = (w.scratch.legacyMarks k || decide (cell = k)) :=
  getLsbD_setBit_of_lt w.scratch.collL hcell k

end

section
variable {c : Nat} {fg : Bool} {background : Colour} {sprite : Option Colour} {w : LineWork}
  (h : Column c fg background sprite w) (k : Nat)
include h

theorem Column.markModern : Column c fg background sprite (w.markModern k) := ⟨h.fg, h.drawn, h.colour⟩

theorem Column.markLegacy : Column c fg background sprite (w.markLegacy k) := ⟨h.fg, h.drawn, h.colour⟩

/-- The first pixel drawn in a column stays. -/
theorem Column.drawPixel (hc : c < 256) (hidden : Bool) (colour : Colour) :
    Column c fg background (sprite.or (if decide (k = c) && !hidden then some colour else none))
      (w.drawPixel hidden k colour) := by
  by_cases hkc : k = c
  · subst hkc
    rw [LineWork.drawPixel, h.drawn, decide_eq_true rfl, Bool.true_and]
    cases hidden with
    | true => exact Option.or_none ▸ h
    | false =>
      cases sprite with
      | some _ => exact h
      | none => exact ⟨h.fg, by simp [hc], fun _ => Vector.getElem_setIfInBounds_self hc⟩
  · rw [decide_eq_false hkc, Bool.false_and, if_neg Bool.false_ne_true, Option.or_none, LineWork.drawPixel]
    split
    · exact h
    · refine ⟨h.fg, ?_, fun _ => ?_⟩
      · simpa [hkc] using h.drawn
      · rw [Vector.getElem_setIfInBounds_ne hc hkc, h.colour]

end

/-! ## Modern sprites (R252 to R259) -/

section
variable (s : State)

theorem shiftRight_zoom (n : Nat) : n >>> s.zoom = n / s.magnification := by
  rw [Nat.shiftRight_eq_div_pow, State.zoom, State.magnification, State.mag]
  cases (s.reg 1).getLsbD 0 <;> simp

/-- Masking off the `k` low bits of a number of `k + m` bits. -/
theorem and_highBits {k m n : Nat} (hn : n < 2 ^ k * 2 ^ m) : n &&& (2 ^ m - 1) * 2 ^ k = n / 2 ^ k * 2 ^ k := by
  have hdiv : (n &&& (2 ^ m - 1) * 2 ^ k) / 2 ^ k = n / 2 ^ k := by
    rw [Nat.and_div_two_pow, Nat.mul_div_cancel _ (Nat.two_pow_pos k),
      Nat.and_two_pow_sub_one_of_lt_two_pow (Nat.div_lt_of_lt_mul hn)]
  have hmod : (n &&& (2 ^ m - 1) * 2 ^ k) % 2 ^ k = 0 := by
    rw [Nat.and_mod_two_pow, Nat.mul_mod_left, Nat.and_zero]
  rw [← hdiv, Nat.div_mul_cancel (Nat.dvd_of_mod_eq_zero hmod)]

/-- The even pattern of a pair (R256). -/
theorem byte_and_0xFE (b : Byte) : b.toNat &&& 0xFE = b.toNat / 2 * 2 := and_highBits (k := 1) (m := 7) b.isLt

/-- The first pattern of a group of four (R266). -/
theorem byte_and_0xFC (b : Byte) : b.toNat &&& 0xFC = b.toNat / 4 * 4 := and_highBits (k := 2) (m := 6) b.isLt

/-- The sprite row that modern entry `i` shows on line `y`, when it covers it. -/
def State.modernLine (i y : Nat) : Nat := (y - topLine (s.modernY i).toNat).toNat

/-- One entry more overflows just when as many as the cap were found, whichever of the two caps holds (R255). -/
theorem modernOver_iff (count : Nat) : s.modernOver (count + 1) = true ↔ s.modernCap ≤ count := by
  unfold State.modernOver State.modernCap State.mag
  cases (s.reg 1).getLsbD 0 <;> simp

/-- The walk over the modern table, as it draws the entries of line `y`. -/
theorem spriteWalk_modern (y : Nat) :
    SpriteWalk (fun i => !s.modernEnd i) (s.modernCovers · y) s.modernCap (fun i => s.drawModern i (s.modernLine i y))
      (s.modernWalk y) := by
  have hrow {i : Nat} : spriteRow (s.modernY i) y s.modernHeight =
      if s.modernCovers i y then some (s.modernLine i y) else none := by
    rw [spriteRow_eq, ← modernCovers_eq]
    rfl
  constructor
  case nil => exact fun _ _ => rfl
  case stop =>
    intro i rest count w hlisted
    rw [State.modernWalk, if_pos (by simpa using hlisted)]
  all_goals
    intro i rest count w hlisted hcovers
    rw [State.modernWalk, if_neg (by simpa using hlisted), hrow, hcovers]
  case draw => exact fun hcount => if_neg (mt (modernOver_iff s count).mp (by omega))
  case full => exact fun hcount => if_pos ((modernOver_iff s count).mpr hcount)
  case skip => rfl

/-- Whether a sprite pixel at column `c` stays hidden: in the blanked left column, or under a foreground pixel (R257). -/
def State.modernHidden (c : Nat) (fg : Bool) : Bool := (s.lcb && decide (c < 8)) || fg

/-- A transparent pixel, or one off the screen, does nothing (R256, R257). -/
theorem plotModern_unseen {ci : Nat} {x : Int} (h : ci = 0 ∨ x < 0 ∨ 255 < x) (w : LineWork) :
    s.plotModern ci x w = w := if_pos h

/-- An opaque pixel on the screen marks its column, and is drawn there unless hidden (R257, R258). -/
theorem plotModern_seen {ci k : Nat} (hci : ci ≠ 0) (hk : k < 256) (w : LineWork) :
    s.plotModern ci k w =
      (w.markModern k).drawPixel (s.modernHidden k (w.scratch.fg.getLsbD k)) k (s.cramColour (16 + ci)) :=
  if_neg (by omega)

theorem overflow_plotModern (ci : Nat) (x : Int) (w : LineWork) : (s.plotModern ci x w).overflow = w.overflow := by
  by_cases hunseen : ci = 0 ∨ x < 0 ∨ 255 < x
  · rw [plotModern_unseen s hunseen]
  · obtain ⟨k, rfl⟩ := Int.eq_ofNat_of_zero_le (by omega : 0 ≤ x)
    rw [plotModern_seen s (by omega) (by omega), overflow_drawPixel, LineWork.markModern]

theorem overflow_drawModern (i r : Nat) (w : LineWork) : (s.drawModern i r w).overflow = w.overflow :=
  List.foldlRecOn (motive := fun v => v.overflow = w.overflow) _ _ rfl fun v hv _ _ =>
    (overflow_plotModern s _ _ v).trans hv

/-- The pass over the modern table draws the entries found on the line (R259). -/
theorem modernSprites_eq_drawFound (y : Nat) (w : LineWork) :
    s.modernSprites y w =
      drawFound (fun i => s.drawModern i (s.modernLine i y)) (s.modernFound y) s.modernCap w := by
  have hwalk := (spriteWalk_modern s y).eq_drawFound (fun i => overflow_drawModern s i _) (List.range 64) _ 0 w
    (Nat.zero_add s.modernCap)
  simp only [modernEnd_eq] at hwalk
  exact hwalk

/-- An opaque pixel that is not hidden gives its column a colour of the sprite palette (R256, R257). -/
theorem Column.plotModern {c : Nat} (hc : c < 256) {fg : Bool} {background : Colour} {sprite : Option Colour}
    {w : LineWork} (h : Column c fg background sprite w) (ci : Nat) (x : Int) :
    Column c fg background
      (sprite.or (if decide (x = c) && (decide (ci ≠ 0) && !s.modernHidden c fg) then some (s.cramColour (16 + ci))
        else none))
      (s.plotModern ci x w) := by
  by_cases hunseen : ci = 0 ∨ x < 0 ∨ 255 < x
  · rw [plotModern_unseen s hunseen, if_neg (by simp only [Bool.and_eq_true, decide_eq_true_eq]; omega), Option.or_none]
    exact h
  · obtain ⟨k, rfl⟩ := Int.eq_ofNat_of_zero_le (by omega : 0 ≤ x)
    have hci : ci ≠ 0 := by omega
    have hpixel :=
      (h.markModern k).drawPixel k hc (s.modernHidden k (w.scratch.fg.getLsbD k)) (s.cramColour (16 + ci))
    rw [plotModern_seen s hci (by omega)]
    by_cases hkc : k = c
    · subst hkc
      simpa [hci, h.fg] using hpixel
    · simpa [hkc] using hpixel

/-- An opaque pixel on the screen hits its column, hidden or not (R258). -/
theorem Tally.plotModern {hits : Nat → Nat} {w : LineWork} (h : Tally Scratch.modernMarks hits w) (ci : Nat) (x : Int) :
    Tally Scratch.modernMarks
      (fun k => hits k + (decide (x = k) && (decide (ci ≠ 0) && decide (k < 256))).toNat) (s.plotModern ci x w) := by
  by_cases hunseen : ci = 0 ∨ x < 0 ∨ 255 < x
  · have hmiss (k : Nat) : (decide (x = k) && (decide (ci ≠ 0) && decide (k < 256))) = false := by
      rw [← Bool.not_eq_true]
      simp only [Bool.and_eq_true, decide_eq_true_eq]
      omega
    simp only [plotModern_unseen s hunseen, hmiss]
    exact h
  · obtain ⟨cell, rfl⟩ := Int.eq_ofNat_of_zero_le (by omega : 0 ≤ x)
    have hci : ci ≠ 0 := by omega
    have hcell : cell < 256 := by omega
    have hhit (k : Nat) : (decide ((cell : Int) = k) && (decide (ci ≠ 0) && decide (k < 256))) = decide (cell = k) := by
      rw [Bool.eq_iff_iff]
      simp only [Bool.and_eq_true, decide_eq_true_eq]
      omega
    simp only [hhit]
    refine h.plot cell (fun k => ?_) ?_
    · rw [plotModern_seen s hci hcell, modernMarks_drawPixel, modernMarks_markModern _ _ hcell]
    · rw [plotModern_seen s hci hcell, collision_drawPixel]
      rfl

/-- The written-out colour index of an entry at a column is that of its pixel there. -/
theorem modernAt_eq {i y : Nat} (hcovers : s.modernCovers i y = true) (x : Int) :
    s.modernAt i y x =
      if s.modernLeft i ≤ x ∧ x < s.modernLeft i + (8 <<< s.zoom : Nat) then
        s.modernIndex i (s.modernLine i y) (x - s.modernLeft i).toNat
      else 0 := by
  have hpattern : s.modernPattern i =
      (let name := s.vramNat (s.modernTable + 0x81 + 2 * i)
       if (s.reg 1).getLsbD 1 then name / 2 * 2 else name) := by
    unfold State.modernPattern
    simp only [byte_and_0xFE, State.vramNat]
    rfl
  unfold State.modernAt State.modernIndex
  simp only [hcovers, true_and, hpattern, shiftLeft_zoom, shiftRight_zoom]
  rfl

theorem modernAt_ne_zero {i y : Nat} (hcovers : s.modernCovers i y = true) (x : Int) :
    decide (s.modernAt i y x ≠ 0) =
      (decide (s.modernLeft i ≤ x ∧ x < s.modernLeft i + (8 <<< s.zoom : Nat)) &&
        decide (s.modernIndex i (s.modernLine i y) (x - s.modernLeft i).toNat ≠ 0)) := by
  rw [modernAt_eq s hcovers]
  by_cases hinside : s.modernLeft i ≤ x ∧ x < s.modernLeft i + (8 <<< s.zoom : Nat)
  · rw [if_pos hinside, decide_eq_true hinside, Bool.true_and]
  · rw [if_neg hinside, decide_eq_false hinside, Bool.false_and]
    rfl

/-- A modern entry on its line gives a column its opaque pixel there, unless hidden. -/
theorem Column.drawModern {i y c : Nat} (hcovers : s.modernCovers i y = true) (hc : c < 256) {fg : Bool}
    {background : Colour} {sprite : Option Colour} {w : LineWork} (h : Column c fg background sprite w) :
    Column c fg background
      (sprite.or (if decide (s.modernAt i y c ≠ 0) && !s.modernHidden c fg then
        some (s.cramColour (16 + s.modernAt i y c)) else none))
      (s.drawModern i (s.modernLine i y) w) := by
  have hpixels := Column.foldl (List.range (8 <<< s.zoom)) (fun q _ _ _ hw =>
    hw.plotModern s hc (s.modernIndex i (s.modernLine i y) q) (s.modernLeft i + q)) _ _ h
  rw [findSome?_range_column, ← Bool.and_assoc, ← modernAt_ne_zero s hcovers] at hpixels
  convert hpixels using 2
  · refine if_ctx_congr Iff.rfl (fun hopaque => ?_) fun _ => rfl
    rw [modernAt_eq s hcovers, if_pos]
    simp only [modernAt_ne_zero s hcovers, Bool.and_eq_true, decide_eq_true_eq] at hopaque
    exact hopaque.left.left
  · rfl

/-- A modern entry on its line hits the on-screen columns of its opaque pixels, each once. -/
theorem Tally.drawModern {i y : Nat} (hcovers : s.modernCovers i y = true) {hits : Nat → Nat} {w : LineWork}
    (h : Tally Scratch.modernMarks hits w) :
    Tally Scratch.modernMarks
      (fun k => hits k + (decide (s.modernAt i y k ≠ 0) && decide (k < 256)).toNat)
      (s.drawModern i (s.modernLine i y) w) := by
  have hpixels := Tally.foldl (List.range (8 <<< s.zoom)) (fun q _ _ _ hw =>
    hw.plotModern s (s.modernIndex i (s.modernLine i y) q) (s.modernLeft i + q)) _ _ h
  simp only [countP_range_column] at hpixels
  simp only [← Bool.and_assoc, ← modernAt_ne_zero s hcovers] at hpixels
  exact hpixels

end

/-! ## The line a sprite pass starts from (42_beam R167) -/

section
variable (s : State) (rr : Renderer) (y : Nat) (bd : Colour)

/-- The background line with its foreground flags, the layer switch applied and every other scratch bit clear. -/
def State.backgroundWork : LineWork where
  row := if s.inputs.cfg.backgroundLayerEnabled then (rr.background s y bd).1 else Row.fill bd
  scratch := { Scratch.clear with fg := (rr.background s y bd).2 }
  collision := false
  overflow := none

theorem lineWork_eq_sprites : s.lineWork rr y bd = rr.sprites s y (s.backgroundWork rr y bd) := rfl

theorem column_backgroundWork {c : Nat} (hc : c < 256) :
    Column c ((rr.background s y bd).2.getLsbD c)
      (if s.inputs.cfg.backgroundLayerEnabled then (rr.background s y bd).1[c] else bd) none
      (s.backgroundWork rr y bd) := by
  refine ⟨rfl, BitVec.getLsbD_zero, fun h => ?_⟩
  rw [State.backgroundWork]
  cases s.inputs.cfg.backgroundLayerEnabled with
  | true => rfl
  | false => exact Row.fill_get bd c h

theorem tally_backgroundWork {marked : Scratch → Nat → Bool}
    (hmarked : ∀ fg k, marked { Scratch.clear with fg := fg } k = false) :
    Tally marked (fun _ => 0) (s.backgroundWork rr y bd) :=
  ⟨hmarked _, by simp [State.backgroundWork]⟩

end

/-! ## What a displayed line with sprites leaves -/

section
variable {s : State} {rr : Renderer} {y : Nat} {draw : Nat → LineWork → LineWork} {found : List Nat} {cap : Nat}
  (hpass : ∀ w, rr.sprites s y w = drawFound draw found cap w)
include hpass

/-- A column of line `y` after rendering shows the colour of the first entry that gives it one, else the background. -/
theorem pixel_renderLineWith_sprites (hblk : s.blk = true) (hy : y < 240) {c : Nat} (hc : c < 256) {fg : Bool}
    (hfg : (rr.background s y (rr.backdrop s)).2.getLsbD c = fg) {paint : Nat → Option Colour}
    (hdraw : ∀ i ∈ found.take cap, ∀ background sprite w, Column c fg background sprite w →
      Column c fg background (sprite.or (paint i)) (draw i w)) :
    (s.renderLineWith rr y).scratch.fg.getLsbD c = fg ∧
    (s.renderLineWith rr y).pixel y c = ((found.take cap).findSome? paint).getD
      (if s.inputs.cfg.backgroundLayerEnabled then (rr.background s y (rr.backdrop s)).1[c] else rr.backdrop s) := by
  have hstart := column_backgroundWork s rr y (rr.backdrop s) hc
  rw [hfg] at hstart
  have hline := hstart.drawFound fun i hi => hdraw i hi _
  rw [← hpass, ← lineWork_eq_sprites] at hline
  constructor
  · rw [State.renderLineWith, if_pos hblk]
    exact hline.fg
  · rw [renderLineWith_pixel_same s rr hy hc, if_pos hblk]
    exact hline.colour hc

/-- The sprite flags after rendering: overflow past the cap, collision where two entries drawn hit one cell (R273). -/
theorem flags_renderLineWith_sprites (hblk : s.blk = true) {marked : Scratch → Nat → Bool}
    (hmarked : ∀ fg k, marked { Scratch.clear with fg := fg } k = false) {hit : Nat → Nat → Bool}
    (hdraw : ∀ i ∈ found.take cap, ∀ hits w, Tally marked hits w →
      Tally marked (fun k => hits k + (hit k i).toNat) (draw i w)) :
    let t := s.renderLineWith rr y
    (t.flags.spriteOverflow = true ↔ s.flags.spriteOverflow = true ∨ cap < found.length) ∧
    (t.flags.overflowIndex =
      match found[cap]? with
      | some i => BitVec.ofNat 6 i
      | none => s.flags.overflowIndex) ∧
    (t.flags.spriteCollision = true ↔
      s.flags.spriteCollision = true ∨ ∃ k, twoOf (found.take cap) (hit k) = true) ∧
    t.flags.framePending = s.flags.framePending ∧ t.flags.linePending = s.flags.linePending := by
  intro t
  have hcollision := (tally_backgroundWork s rr y (rr.backdrop s) hmarked).drawFound hdraw
  have hflags : t.flags = s.flags.afterSprites
      (drawFound draw found cap (s.backgroundWork rr y (rr.backdrop s))).collision found[cap]? := by
    simp only [t, State.renderLineWith, hblk, if_true, lineWork_eq_sprites, hpass]
    exact congrArg _ Option.or_none
  rw [← hcollision, hflags, Flags.afterSprites.eq_def]
  by_cases hlt : cap < found.length
  · simp [hlt]
  · simp [hlt]

end

/-- Cells from `n` on that no entry hits do not matter. -/
theorem twoOf_below (l : List Nat) (p : Nat → Nat → Bool) (n : Nat) :
    (∃ k, twoOf l (fun i => p i k && decide (k < n)) = true) ↔ ∃ k, k < n ∧ twoOf l (fun i => p i k) = true := by
  refine exists_congr fun k => ?_
  by_cases hk : k < n <;> simp [hk, twoOf]

/-! ## Mode 4 -/

/-- Every entry shown covers the line. -/
theorem modernCovers_of_mem {s : State} {y i : Nat} (hi : i ∈ s.modernShown y) : s.modernCovers i y = true :=
  (List.mem_filter.mp (List.mem_of_mem_take hi)).right

theorem modernHidden_iff (s : State) (c : Nat) (fg : Bool) :
    s.modernHidden c fg = true ↔ fg = true ∨ ((s.reg 0).getLsbD 5 = true ∧ c < 8) := by
  rw [State.modernHidden, State.lcb, Bool.or_eq_true, Bool.and_eq_true, decide_eq_true_eq, or_comm]

theorem background_mode4 (s : State) (y : Nat) (bd : Colour) :
    rendererMode4.background s y bd = (Row.ofColumns (s.mode4Pixel y bd), bitsOfColumns (s.mode4Fg y)) := rfl

theorem getLsbD_background_mode4 (s : State) (y : Nat) (bd : Colour) {x : Nat} (hx : x < 256) :
    (rendererMode4.background s y bd).2.getLsbD x = s.mode4Fg y x := by
  rw [background_mode4, bitsOfColumns_getLsbD _ x hx]

theorem getElem_background_mode4 (s : State) (y : Nat) (bd : Colour) {x : Nat} (hx : x < 256) :
    (rendererMode4.background s y bd).1[x] = s.mode4Pixel y bd x := by
  rw [background_mode4, Row.ofColumns_get _ x hx]

/-! ## Legacy sprites (R265 to R272) -/

section
variable (s : State)

/-- The sprite row that legacy entry `i` shows on line `y`, when it covers it. -/
def State.legacyLine (i y : Nat) : Nat := (y - topLine (s.legacyByte i 0).toNat).toNat

/-- The walk over the legacy table, as it draws the entries of line `y`. -/
theorem spriteWalk_legacy (y : Nat) :
    SpriteWalk (fun i => decide (s.vramNat (s.legacyTable + 4 * i) ≠ 0xD0)) (s.legacyCovers · y)
      s.inputs.cfg.legacySpriteCap (fun i => s.drawLegacy i (s.legacyLine i y)) (s.legacyWalk y) := by
  have hrow {i : Nat} : spriteRow (s.legacyByte i 0) y (s.legacySize <<< s.zoom) =
      if s.legacyCovers i y then some (s.legacyLine i y) else none := by
    rw [spriteRow_eq, ← legacyCovers_eq]
    rfl
  constructor
  case nil => exact fun _ _ => rfl
  case stop =>
    intro i rest count w hlisted
    rw [State.legacyWalk, if_pos ((legacyByte_zero_eq_iff s i).mpr (by simpa using hlisted))]
  all_goals
    intro i rest count w hlisted hcovers
    rw [State.legacyWalk, if_neg (mt (legacyByte_zero_eq_iff s i).mp (by simpa using hlisted)), hrow, hcovers]
  case draw => exact fun hcount => if_neg (by omega)
  case full => exact fun hcount => if_pos (by omega)
  case skip => rfl

/-- A set pixel marks its column of the wide array, and is drawn if it is on the screen and has a colour (R269, R270). -/
theorem plotLegacy_eq (colour : Nat) (x : Int) (w : LineWork) :
    s.plotLegacy colour x w =
      (w.markLegacy (x + 32).toNat).drawPixel (decide (x < 0 ∨ 255 < x ∨ colour = 0)) x.toNat
        (s.fixedColour colour) := by
  unfold State.plotLegacy LineWork.drawPixel
  simp only [Bool.or_eq_true, decide_eq_true_eq, or_assoc]
  rfl

theorem overflow_drawLegacy (i r : Nat) (w : LineWork) : (s.drawLegacy i r w).overflow = w.overflow := by
  refine List.foldlRecOn (motive := fun v => v.overflow = w.overflow) _ _ rfl fun (v : LineWork) hv q _ => ?_
  split
  · rw [plotLegacy_eq, overflow_drawPixel]
    exact hv
  · exact hv

/-- The pass over the legacy table draws the entries found on the line (R272). -/
theorem legacySprites_eq_drawFound (y : Nat) (w : LineWork) :
    s.legacySprites y w =
      drawFound (fun i => s.drawLegacy i (s.legacyLine i y)) (s.legacyFound y) s.inputs.cfg.legacySpriteCap w :=
  (spriteWalk_legacy s y).eq_drawFound (fun i => overflow_drawLegacy s i _) (List.range 32) _ 0 w (Nat.zero_add _)

/-- A set pixel of a non-zero colour gives its column that colour (R269). -/
theorem Column.plotLegacy {c : Nat} (hc : c < 256) {fg : Bool} {background : Colour} {sprite : Option Colour}
    {w : LineWork} (h : Column c fg background sprite w) (colour : Nat) (x : Int) :
    Column c fg background
      (sprite.or (if decide (x = c) && decide (colour ≠ 0) then some (s.fixedColour colour) else none))
      (s.plotLegacy colour x w) := by
  have hpaint : (decide (x = c) && decide (colour ≠ 0)) =
      (decide (x.toNat = c) && !decide (x < 0 ∨ 255 < x ∨ colour = 0)) := by
    rw [Bool.eq_iff_iff]
    simp only [Bool.and_eq_true, Bool.not_eq_true', decide_eq_true_eq, decide_eq_false_iff_not]
    omega
  rw [plotLegacy_eq, hpaint]
  exact (h.markLegacy _).drawPixel _ hc _ _

/-- A set pixel hits its cell of the wide array, whatever its colour (R270). -/
theorem Tally.plotLegacy {hits : Nat → Nat} {w : LineWork} (h : Tally Scratch.legacyMarks hits w) (colour : Nat)
    {x : Int} (hleft : -32 ≤ x) (hright : x ≤ 287) :
    Tally Scratch.legacyMarks (fun k => hits k + (decide (x = (k : Int) - 32) && decide (k < 320)).toNat)
      (s.plotLegacy colour x w) := by
  have hhit (k : Nat) : (decide (x = (k : Int) - 32) && decide (k < 320)) = decide ((x + 32).toNat = k) := by
    rw [Bool.eq_iff_iff]
    simp only [Bool.and_eq_true, decide_eq_true_eq]
    omega
  simp only [hhit]
  refine h.plot _ (fun k => ?_) ?_
  · rw [plotLegacy_eq, legacyMarks_drawPixel, legacyMarks_markLegacy _ _ (by omega)]
  · rw [plotLegacy_eq, collision_drawPixel]
    rfl

/-- The pixels of a legacy entry lie in the columns of the wide array (R270). -/
theorem legacy_columns (i : Nat) {q : Nat} (hq : q ∈ List.range (s.legacySize <<< s.zoom)) :
    -32 ≤ s.legacyLeft i + q ∧ s.legacyLeft i + q ≤ 287 := by
  have hbyte := (s.legacyByte i 1).isLt
  have hshift : s.params.legacyEcShift.pixels ≤ 32 := by cases s.params.legacyEcShift <;> decide
  have hwidth : s.legacySize <<< s.zoom ≤ 32 := by
    rw [shiftLeft_zoom]
    unfold State.legacySize State.magnification
    split <;> split <;> decide
  have hq := List.mem_range.mp hq
  unfold State.legacyLeft
  split <;> omega

/-- The written-out pattern bit of an entry at a column is that of its pixel there. -/
theorem legacyAt_eq {i y : Nat} (hcovers : s.legacyCovers i y = true) (x : Int) :
    s.legacyAt i y x =
      (decide (s.legacyLeft i ≤ x ∧ x < s.legacyLeft i + (s.legacySize <<< s.zoom : Nat)) &&
        s.legacyBit i (s.legacyLine i y) (x - s.legacyLeft i).toNat) := by
  have hleft : s.legacyLeft i = (s.vramNat (s.legacyTable + 4 * i + 1) : Int) -
      if (s.vramByte (s.legacyTable + 4 * i + 3)).getLsbD 7 then (s.params.legacyEcShift.pixels : Int) else 0 := by
    rw [State.legacyLeft, Nat.cast_ite]
    rfl
  unfold State.legacyAt State.legacyBit
  simp only [hcovers, Bool.true_and, Bool.decide_and, shiftLeft_zoom, shiftRight_zoom,
    byte_and_0xFC, mod_eight_eq_and, Nat.shiftRight_eq_div_pow _ 3]
  rw [hleft]
  cases s.params.legacyEcShift <;> rfl

/-- A legacy entry on its line gives a column its colour where its pattern bit is set and the colour is not 0. -/
theorem Column.drawLegacy {i y c : Nat} (hcovers : s.legacyCovers i y = true) (hc : c < 256) {fg : Bool}
    {background : Colour} {sprite : Option Colour} {w : LineWork} (h : Column c fg background sprite w) :
    Column c fg background
      (sprite.or (if s.legacyAt i y c && decide (s.legacySpriteColour i ≠ 0) then
        some (s.fixedColour (s.legacySpriteColour i)) else none))
      (s.drawLegacy i (s.legacyLine i y) w) := by
  have hpixel (q : Nat) (sprite : Option Colour) (w : LineWork) (hw : Column c fg background sprite w) :
      Column c fg background
        (sprite.or (if decide (s.legacyLeft i + (q : Int) = c) &&
          (s.legacyBit i (s.legacyLine i y) q && decide (s.legacyColour i ≠ 0)) then
            some (s.fixedColour (s.legacyColour i)) else none))
        (if s.legacyBit i (s.legacyLine i y) q then s.plotLegacy (s.legacyColour i) (s.legacyLeft i + q) w else w) := by
    cases s.legacyBit i (s.legacyLine i y) q with
    | true => exact hw.plotLegacy s hc _ _
    | false => simpa using hw
  have hpixels := Column.foldl (List.range (s.legacySize <<< s.zoom)) (fun q _ => hpixel q) _ _ h
  rw [findSome?_range_column, ← Bool.and_assoc, ← legacyAt_eq s hcovers] at hpixels
  exact hpixels

/-- A legacy entry on its line hits the cells of its set pixels, each once. -/
theorem Tally.drawLegacy {i y : Nat} (hcovers : s.legacyCovers i y = true) {hits : Nat → Nat} {w : LineWork}
    (h : Tally Scratch.legacyMarks hits w) :
    Tally Scratch.legacyMarks
      (fun k => hits k + (s.legacyAt i y ((k : Int) - 32) && decide (k < 320)).toNat)
      (s.drawLegacy i (s.legacyLine i y) w) := by
  have hpixel (q : Nat) (hq : q ∈ List.range (s.legacySize <<< s.zoom)) (hits : Nat → Nat) (w : LineWork)
      (hw : Tally Scratch.legacyMarks hits w) :
      Tally Scratch.legacyMarks
        (fun k => hits k + (decide (s.legacyLeft i + (q : Int) = (k : Int) - 32) &&
          (s.legacyBit i (s.legacyLine i y) q && decide (k < 320))).toNat)
        (if s.legacyBit i (s.legacyLine i y) q then s.plotLegacy (s.legacyColour i) (s.legacyLeft i + q) w else w) := by
    obtain ⟨hleft, hright⟩ := legacy_columns s i hq
    cases s.legacyBit i (s.legacyLine i y) q with
    | true => exact hw.plotLegacy s _ hleft hright
    | false => simpa using hw
  have hpixels := Tally.foldl (List.range (s.legacySize <<< s.zoom)) hpixel _ _ h
  simp only [countP_range_column] at hpixels
  simp only [← Bool.and_assoc, ← legacyAt_eq s hcovers] at hpixels
  exact hpixels

end

/-! ## The legacy modes -/

/-- Every entry shown covers the line. -/
theorem legacyCovers_of_mem {s : State} {y i : Nat} (hi : i ∈ s.legacyShown y) : s.legacyCovers i y = true :=
  (List.mem_filter.mp (List.mem_of_mem_take hi)).right

/-- The renderer of a mode with legacy sprites (45_sprites R250). -/
def legacySpriteRenderer (pixel : State → Nat → Colour → Nat → Colour) : Renderer :=
  ⟨State.legacyBackdrop, legacyBackground pixel, State.legacySprites⟩

/-- A legacy sprite mode selects its renderer (30_encoding R82). -/
theorem LegacySpriteMode.rendererOf {i : Instr} {hsel : BitVec 2} {pixel : State → Nat → Colour → Nat → Colour}
    (h : LegacySpriteMode i hsel pixel) : rendererOf i = some (legacySpriteRenderer pixel) := by
  obtain ⟨rfl, rfl⟩ | ⟨rfl, rfl⟩ | ⟨rfl, rfl⟩ := h <;> rfl

theorem getElem_background_legacy (pixel : State → Nat → Colour → Nat → Colour) (s : State) (y : Nat) (bd : Colour)
    {x : Nat} (hx : x < 256) : ((legacySpriteRenderer pixel).background s y bd).1[x] = pixel s y bd x :=
  Row.ofColumns_get _ x hx

/-! ## The sprite flags only accumulate (R273) -/

/-- Every sprite flag set before is still set, and another OverflowIndex comes with an overflow. -/
structure Flags.Accumulates (f g : Flags) : Prop where
  overflow  : f.spriteOverflow = true → g.spriteOverflow = true
  collision : f.spriteCollision = true → g.spriteCollision = true
  index     : g.overflowIndex ≠ f.overflowIndex → g.spriteOverflow = true

/-- The sprite flags are kept. -/
theorem Flags.Accumulates.of_eq {f g : Flags} (hoverflow : g.spriteOverflow = f.spriteOverflow)
    (hcollision : g.spriteCollision = f.spriteCollision) (hindex : g.overflowIndex = f.overflowIndex) :
    f.Accumulates g :=
  ⟨fun h => hoverflow.trans h, fun h => hcollision.trans h, fun h => absurd hindex h⟩

theorem accumulates_afterSprites (f : Flags) (collision : Bool) (overflow : Option Nat) :
    f.Accumulates (f.afterSprites collision overflow) := by
  have hor : f.spriteCollision = true → (f.spriteCollision || collision) = true := fun h => by rw [h, Bool.true_or]
  cases overflow with
  | none => exact ⟨id, hor, fun h => absurd rfl h⟩
  | some i => exact ⟨fun _ => rfl, hor, fun _ => rfl⟩

theorem accumulates_renderLineWith (s : State) (rr : Renderer) (y : Nat) :
    s.flags.Accumulates (s.renderLineWith rr y).flags := by
  unfold State.renderLineWith
  split
  · exact accumulates_afterSprites _ _ _
  · exact .of_eq rfl rfl rfl

/-- In the line step only the render phase touches the sprite flags. -/
theorem accumulates_lineStep (s : State) : s.flags.Accumulates s.lineStep.flags := by
  obtain ⟨rr, hrr, -⟩ := renderLine_eq s
  have hrendered : s.flags.Accumulates (s.renderedWith rr).flags := by
    unfold State.renderedWith
    split
    · exact accumulates_renderLineWith s rr _
    · exact .of_eq rfl rfl rfl
  have hrendering := (lineStep_rendering hrr).left
  simp only [State.rendering, Prod.mk.injEq] at hrendering
  obtain ⟨-, -, hoverflow, hcollision, hindex⟩ := hrendering
  exact ⟨hoverflow ▸ hrendered.overflow, hcollision ▸ hrendered.collision,
    hoverflow ▸ hindex ▸ hrendered.index⟩

/-! ## The obligations -/

/-- Settles O41: every entry shown gives a column its opaque pixel unless hidden, and the first to give one stays. -/
theorem firstOpaqueModernSpriteWins : Obligations.FirstOpaqueModernSpriteWins := by
  intro s hsel m3 m2 m1 hblk hsd
  refine ⟨s.renderLineWith rendererMode4 s.beam.sd, rfl, renderLineWith_frame s _ _, renderLineWith_pixel_other s _ _,
    fun x hx => ?_⟩
  obtain ⟨hfg, hpixel⟩ := pixel_renderLineWith_sprites (rr := rendererMode4) (modernSprites_eq_drawFound s s.beam.sd)
    hblk hsd hx (getLsbD_background_mode4 s s.beam.sd _ hx)
    fun i hi _ _ _ hw => hw.drawModern s (modernCovers_of_mem hi) hx
  refine ⟨hfg, hpixel.trans ?_⟩
  rw [getElem_background_mode4 s s.beam.sd _ hx]
  cases hhidden : s.modernHidden x (s.mode4Fg s.beam.sd x) with
  | true =>
    rw [if_pos ((modernHidden_iff s x _).mp hhidden),
      List.findSome?_eq_none_iff.mpr fun i _ => by rw [Bool.not_true, Bool.and_false]; rfl]
    rfl
  | false =>
    rw [if_neg (mt (modernHidden_iff s x _).mpr (by simp [hhidden]))]
    simp only [Bool.not_false, Bool.and_true, findSome?_ite]
    unfold State.modernShown
    cases List.find? _ (List.take s.modernCap _) <;> rfl

/-- Settles O42: two entries shown collide where both have an opaque pixel in a column of the screen. -/
theorem modernSpriteFlags : Obligations.ModernSpriteFlags := by
  intro s hsel m3 m2 m1 hblk
  obtain ⟨hoverflow, hindex, hcollision, hinterrupts⟩ := flags_renderLineWith_sprites (rr := rendererMode4)
    (modernSprites_eq_drawFound s s.beam.sd) hblk (marked := Scratch.modernMarks) (fun _ _ => BitVec.getLsbD_zero)
    fun i hi _ _ hw => hw.drawModern s (modernCovers_of_mem hi)
  have hcolumns := twoOf_below (s.modernShown s.beam.sd) (fun i x => decide (s.modernAt i s.beam.sd x ≠ 0)) 256
  exact ⟨_, rfl, hoverflow, hindex, hcollision.trans (or_congr_right hcolumns), hinterrupts⟩

/-- Settles O43: every entry shown gives a column its colour where it has a set pixel, and the first to give one stays. -/
theorem firstColouredLegacySpriteWins : Obligations.FirstColouredLegacySpriteWins := by
  intro s i hsel pixel hmode hblk hsd
  refine ⟨_, exec_of_rendererOf hmode.rendererOf s, renderLineWith_frame s _ _, renderLineWith_pixel_other s _ _,
    fun x hx => ?_⟩
  obtain ⟨-, hpixel⟩ := pixel_renderLineWith_sprites (rr := legacySpriteRenderer pixel)
    (legacySprites_eq_drawFound s s.beam.sd) hblk hsd hx rfl
    fun i hi _ _ _ hw => hw.drawLegacy s (legacyCovers_of_mem hi) hx
  rw [getElem_background_legacy pixel s s.beam.sd _ hx, findSome?_ite] at hpixel
  refine hpixel.trans ?_
  unfold State.legacyShown
  cases List.find? _ (List.take s.inputs.cfg.legacySpriteCap _) <;> rfl

/-- Settles O44: the cells of the wide array are the columns from -32 to 287. -/
theorem legacySpriteFlags : Obligations.LegacySpriteFlags := by
  intro s i hsel pixel hmode hblk
  obtain ⟨hoverflow, hindex, hcollision, hinterrupts⟩ := flags_renderLineWith_sprites
    (rr := legacySpriteRenderer pixel) (legacySprites_eq_drawFound s s.beam.sd) hblk (marked := Scratch.legacyMarks)
    (fun _ _ => BitVec.getLsbD_zero) fun i hi _ _ hw => hw.drawLegacy s (legacyCovers_of_mem hi)
  refine ⟨_, exec_of_rendererOf hmode.rendererOf s, hoverflow, hindex, hcollision.trans (or_congr_right ?_),
    hinterrupts⟩
  rw [twoOf_below _ (fun j k => s.legacyAt j s.beam.sd ((k : Int) - 32)) 320]
  constructor
  · rintro ⟨k, hk, htwo⟩
    exact ⟨(k : Int) - 32, by omega, by omega, htwo⟩
  · rintro ⟨x, hleft, hright, htwo⟩
    refine ⟨(x + 32).toNat, by omega, ?_⟩
    rwa [show (((x + 32).toNat : Nat) : Int) - 32 = x by omega]

/-- Settles O45: only rendering writes the sprite flags, and it only sets them. -/
theorem spriteFlagsOnlyAccumulate : Obligations.SpriteFlagsOnlyAccumulate := by
  intro s t i h hi
  suffices haccumulate : s.flags.Accumulates t.flags from
    ⟨haccumulate.overflow, haccumulate.collision, haccumulate.index⟩
  cases exec_eq_next_iff.mp h with
  | line => exact accumulates_lineStep s
  | render => exact accumulates_renderLineWith s _ _
  | flagclr m => exact absurd rfl (hi m)
  | regwr | vramwr | cramwr | illegalE | illegalF | read => exact .of_eq rfl rfl rfl

end Sys2Proof.Machine
end

section
/-! Proofs of the frame assembler's family (46_frame_assembler): the blends, the downscaler's expressions, the images and
the line step that stores one; then the obligations. -/

namespace Sys2Proof.Machine

/-! ## The mean of a channel (R290 to R294) -/

section
variable (ch : Colour → Nat) {cs ds : List Colour}

theorem meanOf_le {hi : Nat} (h : ∀ c ∈ cs, ch c ≤ hi) : meanOf ch cs ≤ hi := by
  have hsum : (cs.map ch).sum ≤ cs.length * hi := by
    simpa using List.sum_le_card_nsmul (cs.map ch) hi (by simpa using h)
  exact Nat.div_le_of_le_mul hsum

theorem le_meanOf {lo : Nat} (hcs : cs ≠ []) (h : ∀ c ∈ cs, lo ≤ ch c) : lo ≤ meanOf ch cs := by
  have hsum : cs.length * lo ≤ (cs.map ch).sum := by
    simpa using List.card_nsmul_le_sum (cs.map ch) lo (by simpa using h)
  exact (Nat.le_div_iff_mul_le (List.length_pos_iff.mpr hcs)).mpr (Nat.mul_comm lo _ ▸ hsum)

theorem meanOf_perm (h : cs.Perm ds) : meanOf ch cs = meanOf ch ds := by
  rw [meanOf, meanOf, (h.map ch).sum_eq, h.length_eq]

theorem meanOf_replicate (c : Colour) {n : Nat} (hn : 0 < n) : meanOf ch (List.replicate n c) = ch c := by
  simp [meanOf, hn]

end

theorem channel_le {ch : Colour → Nat} (hch : ch ∈ [redOf, greenOf, blueOf]) (c : Colour) : ch c ≤ 255 := by
  obtain rfl | rfl | rfl : ch = redOf ∨ ch = greenOf ∨ ch = blueOf := by simpa using hch
  all_goals exact Nat.le_of_lt_succ (Nat.mod_lt _ (by decide))

/-- Each channel of a blend is the mean of that channel. -/
theorem channel_blend {ch : Colour → Nat} (hch : ch ∈ [redOf, greenOf, blueOf]) (cs : List Colour) :
    ch (blend cs) = meanOf ch cs := by
  have hbyte : ∀ ch ∈ [redOf, greenOf, blueOf], meanOf ch cs < 256 := fun ch hch =>
    Nat.lt_succ_of_le (meanOf_le ch fun c _ => channel_le hch c)
  simp only [List.forall_mem_cons] at hbyte
  obtain ⟨hr, hg, hb, -⟩ := hbyte
  obtain rfl | rfl | rfl : ch = redOf ∨ ch = greenOf ∨ ch = blueOf := by simpa using hch
  · exact redOf_argb hr hg hb
  · exact greenOf_argb hr hg hb
  · exact blueOf_argb hr hg hb

theorem blend_perm {cs ds : List Colour} (h : cs.Perm ds) : blend cs = blend ds := by
  rw [blend, meanOf_perm redOf h, meanOf_perm greenOf h, meanOf_perm blueOf h, blend]

/-- An opaque colour is what its three channels pack to. -/
theorem argb_channels {c : Colour} (hc : opaqueColour c = true) : argb (redOf c) (greenOf c) (blueOf c) = c := by
  have halpha : c.toNat / 16777216 % 256 = 255 := by
    simpa [Nat.shiftRight_eq_div_pow] using congrArg BitVec.toNat (eq_of_beq hc)
  apply BitVec.eq_of_toNat_eq
  rw [argb_toNat (by unfold redOf; omega) (by unfold greenOf; omega) (by unfold blueOf; omega)]
  unfold redOf greenOf blueOf
  omega

theorem blend_replicate {c : Colour} (hc : opaqueColour c = true) {n : Nat} (hn : 0 < n) :
    blend (List.replicate n c) = c := by
  simp only [blend, meanOf_replicate _ c hn, argb_channels hc]

/-! ## The expressions of a downscaler (R300, R301) -/

section
variable {pixel pixel' : Nat → Nat → Colour} {height : Nat} {bd : Colour}

/-- The value of an expression rests on rows 0..H−1 and the 256 columns only. -/
theorem evalScale_congr (hheight : 0 < height)
    (h : ∀ y x, y < height → x < 256 → pixel y x = pixel' y x) (e : ScaleExpr) :
    evalScale pixel height bd e = evalScale pixel' height bd e := by
  induction e with
  | pixel r c => exact h _ _ (Nat.mod_lt r hheight) (Nat.mod_lt c (by decide))
  | backdrop => rfl
  | half a b iha ihb => rw [evalScale, evalScale, iha, ihb]
  | third a b c iha ihb ihc => rw [evalScale, evalScale, iha, ihb, ihc]

/-- Blends of one opaque colour give it back, however they are nested. -/
theorem evalScale_const (hheight : 0 < height) (hbd : opaqueColour bd = true)
    (h : ∀ y x, y < height → x < 256 → pixel y x = bd) (e : ScaleExpr) : evalScale pixel height bd e = bd := by
  induction e with
  | pixel r c => exact h _ _ (Nat.mod_lt r hheight) (Nat.mod_lt c (by decide))
  | backdrop => rfl
  | half a b iha ihb =>
    rw [evalScale, iha, ihb]
    exact blend_replicate hbd (n := 2) (by decide)
  | third a b c iha ihb ihc =>
    rw [evalScale, iha, ihb, ihc]
    exact blend_replicate hbd (n := 3) (by decide)

/-- `HRow(r)[5g + j]` of R301, written out over the source pixels. -/
def hRowPixel (pixel : Nat → Nat → Colour) (r g j : Nat) : Colour :=
  let o := if j = 0 then 0 else if j = 1 then 1 else if j = 2 then 3 else if j = 3 then 5 else 6
  blendHalf (pixel r (8 * g + o)) (pixel r (8 * g + o + 1))

variable {r g j : Nat}

theorem evalScale_scaleHRow (hr : r < height) (hg : g < 32) (hj : j < 5) :
    evalScale pixel height bd (scaleHRow r (5 * g + j)) = hRowPixel pixel r g j := by
  have hoffset : ∀ j < 5, scaleOffset j ≤ 6 ∧
      scaleOffset j = if j = 0 then 0 else if j = 1 then 1 else if j = 2 then 3 else if j = 3 then 5 else 6 := by decide
  obtain ⟨hle, heq⟩ := hoffset j hj
  have hgroup : (5 * g + j) / 5 = g := by omega
  have hplace : (5 * g + j) % 5 = j := by omega
  have hleft : (8 * g + scaleOffset j) % 256 = 8 * g + scaleOffset j := Nat.mod_eq_of_lt (by omega)
  have hright : (8 * g + scaleOffset j + 1) % 256 = 8 * g + scaleOffset j + 1 := Nat.mod_eq_of_lt (by omega)
  simp only [scaleHRow, evalScale, hgroup, hplace, Nat.mod_eq_of_lt hr, hleft, hright]
  rw [heq]
  rfl

/-- At column `5g + j` of an image, rows `out` and `out + 1` are the two rows of `VPair(first)` (R301). -/
def ScaledPair (pixel : Nat → Nat → Colour) (image : FrameImage) (first out g j : Nat) : Prop :=
  image.pixel out (5 * g + j) =
    blendThird (hRowPixel pixel first g j) (hRowPixel pixel first g j) (hRowPixel pixel (first + 1) g j) ∧
  image.pixel (out + 1) (5 * g + j) =
    blendThird (hRowPixel pixel (first + 1) g j) (hRowPixel pixel (first + 2) g j) (hRowPixel pixel (first + 2) g j)

/-- The upper row of a pair: two thirds of the first source row (R301). -/
theorem evalScale_scaleVPair_upper (hr : r + 2 < height) (hg : g < 32) (hj : j < 5) :
    evalScale pixel height bd (scaleVPair r 0 (5 * g + j)) =
      blendThird (hRowPixel pixel r g j) (hRowPixel pixel r g j) (hRowPixel pixel (r + 1) g j) := by
  rw [scaleVPair, if_pos rfl, evalScale, evalScale_scaleHRow (by omega) hg hj, evalScale_scaleHRow (by omega) hg hj]

/-- The lower row of a pair: two thirds of the last source row (R301). -/
theorem evalScale_scaleVPair_lower (hr : r + 2 < height) (hg : g < 32) (hj : j < 5) :
    evalScale pixel height bd (scaleVPair r 1 (5 * g + j)) =
      blendThird (hRowPixel pixel (r + 1) g j) (hRowPixel pixel (r + 2) g j) (hRowPixel pixel (r + 2) g j) := by
  rw [scaleVPair, if_neg one_ne_zero, evalScale, evalScale_scaleHRow (by omega) hg hj, evalScale_scaleHRow hr hg hj]

end

/-! ## The rows of the reference downscaler (R301, R302) -/

theorem referenceScale_margin {row : Nat} (col : Nat) (h : row < 8 ∨ 136 ≤ row) :
    referenceScale .h192 row col = .backdrop := if_pos h

/-- The output row at which the pairs begin: at 192 lines they follow the margin. -/
def firstOut (h : Height) : Nat := if h = .h192 then 8 else 0

/-- The source row at which the pairs begin. -/
def firstSource (h : Height) : Nat := if h = .h192 then 0 else (h.toNat - 216) / 2

/-- How many pairs of rows the image holds. -/
def pairCount (h : Height) : Nat := if h = .h192 then 64 else 72

theorem referenceScale_pair (h : Height) {k i : Nat} (col : Nat) (hk : k < pairCount h) (hi : i < 2) :
    referenceScale h (firstOut h + 2 * k + i) col = scaleVPair (firstSource h + 3 * k) i col := by
  have hhalf : (2 * k + i) / 2 = k := by omega
  have hparity : (2 * k + i) % 2 = i := by omega
  cases h with
  | h192 =>
    have hinside : ¬(8 + 2 * k + i < 8 ∨ 136 ≤ 8 + 2 * k + i) := by
      have hk64 : k < 64 := hk
      omega
    have hrow : 8 + 2 * k + i - 8 = 2 * k + i := by omega
    simp [referenceScale, firstOut, firstSource, hinside, hrow, hhalf, hparity]
  | h224 | h240 => simp [referenceScale, firstOut, firstSource, Height.toNat, hhalf, hparity]

/-- Every pair lies in the 144 rows of the image, and its three source rows among rows 0..H−1. -/
theorem pair_bounds (h : Height) {k : Nat} (hk : k < pairCount h) :
    firstOut h + 2 * k + 1 < 144 ∧ firstSource h + 3 * k + 2 < h.toNat := by
  cases h <;> simp [pairCount, firstOut, firstSource, Height.toNat] at * <;> omega

/-! ## Images (R295, R297, R298) -/

theorem pixel_imageOf {height width r c : Nat} (f : Nat → Nat → Colour) (hr : r < height) (hc : c < width) :
    (FrameImage.assembled (imageOf height width f)).pixel r c = f r c := by
  simp [FrameImage.pixel, imageOf, hr, hc]

theorem exists_of_mem_imageOf {height width : Nat} {f : Nat → Nat → Colour} {row : List Colour} {p : Colour}
    (hrow : row ∈ imageOf height width f) (hp : p ∈ row) : ∃ r c, p = f r c := by
  obtain ⟨r, -, rfl⟩ := List.mem_map.mp hrow
  obtain ⟨c, -, rfl⟩ := List.mem_map.mp hp
  exact ⟨r, c, rfl⟩

theorem imageOf_congr {height width : Nat} {f f' : Nat → Nat → Colour}
    (h : ∀ r c, r < height → c < width → f r c = f' r c) : imageOf height width f = imageOf height width f' :=
  List.map_congr_left fun r hr => List.map_congr_left fun c hc => h r c (List.mem_range.mp hr) (List.mem_range.mp hc)

section
variable {s : State}

theorem assembled_normal (h : s.latched.resize = .normal) : s.assembled = s.normalCopy := by
  rw [State.assembled, h]

theorem assembled_cropped (h : s.latched.resize = .cropped) : s.assembled = s.cropCopy := by
  rw [State.assembled, h]

theorem assembled_scaled (h : s.latched.resize = .scaled) : s.assembled = s.scaledCopy := by
  rw [State.assembled, h]

/-- The downscaler is a function of HW_SCALE, the height, rows 0..H−1 and the backdrop (R300). -/
theorem scaledCopy_congr {u : State} (hscale : u.params.hwScale = s.params.hwScale) (hheight : u.latched.h = s.latched.h)
    (hbd : u.cachedBackdrop = s.cachedBackdrop)
    (hpixel : ∀ y x, y < s.latched.h.toNat → x < 256 → u.pixel y x = s.pixel y x) : u.scaledCopy = s.scaledCopy := by
  have hsource : u.normalCopy = s.normalCopy := by
    rw [State.normalCopy, hheight, imageOf_congr hpixel, State.normalCopy]
  have hexpr : u.scaleExpr = s.scaleExpr := by
    funext row col
    rw [State.scaleExpr, hscale, hheight, hsource, hbd, State.scaleExpr]
  rw [State.scaledCopy, hexpr, hheight, hbd, State.scaledCopy]
  exact imageOf_congr fun r c _ _ => evalScale_congr s.latched.h.toNat_pos hpixel _

/-! ## The image that LINE stores (R296, 42_beam R168) -/

theorem frameIntLine_eq (h : Height) : frameIntLine h = h.toNat + 1 := by
  cases h <;> rfl

/-- No phase after rendering writes the Pixel Buffer. -/
theorem lineStep_pixel (s : State) : s.lineStep.pixel = s.lineCounted.pixel := by
  obtain ⟨o, ho⟩ := lineStep_eq_endState s
  have hphases := congrArg Prod.fst (linePhases_rendering (s.answer 0)).left
  have hadvance := congrArg Prod.fst (advanceRegion_rendering (s.answer 0).linePhases).left
  have hpb : s.lineStep.pb = s.lineCounted.pb := by
    rw [ho]
    exact hadvance.trans hphases
  funext y x
  rw [State.pixel, State.pbRow, hpb]
  rfl

section
variable (hint : s.beam.sd + 1 = frameIntLine s.latched.h)
include hint

/-- EndFrame assembles the Pixel Buffer as the line step has rendered it. -/
theorem lineStep_image : s.lineStep.frame.image = .assembled s.lineCounted.assembled := by
  obtain ⟨hframe, -⟩ := lineStep_framePhase s
  have hsd : s.lineCounted.beam.sd = frameIntLine s.lineCounted.latched.h := by simpa using hint
  rw [hframe, State.framePhase, if_pos hsd]
  rfl

variable (hp : s.params.wellFormed = true) (hok : s.beamOk = true)
include hp hok

/-- Line H lies below the display: the line step that assembles a frame renders nothing. -/
theorem lineCounted_atFrameIntLine : s.lineCounted = (s.answer 0).sampleCycle.countLine := by
  have hbelow : s.beam.region ≠ .activeDisplay := by
    rw [Ne, region_eq_activeDisplay_iff hp hok]
    rw [frameIntLine_eq] at hint
    omega
  exact congrArg State.countLine (if_neg hbelow)

theorem lineStep_image_scaled (hresize : s.latched.resize = .scaled) :
    s.lineStep.frame.image = .assembled s.scaledCopy := by
  rw [lineStep_image hint, assembled_scaled (by simpa using hresize), lineCounted_atFrameIntLine hint hp hok]
  rfl

end

/-- In Scaled mode each pixel of the 160 × 144 image is the value of the downscaler's expression. -/
theorem pixel_scaledCopy {r c : Nat} (hr : r < 144) (hc : c < 160) :
    (FrameImage.assembled s.scaledCopy).pixel r c =
      evalScale s.pixel s.latched.h.toNat s.cachedBackdrop (s.scaleExpr r c) :=
  pixel_imageOf _ hr hc

section
variable (href : s.params.hwScale = .reference)
include href

theorem scaleExpr_reference (r c : Nat) : s.scaleExpr r c = referenceScale s.latched.h r c := by
  rw [State.scaleExpr, href]

theorem pixel_scaledCopy_margin (h192 : s.latched.h = .h192) {r c : Nat} (hr : r < 8 ∨ 136 ≤ r ∧ r < 144)
    (hc : c < 160) :
    (FrameImage.assembled s.scaledCopy).pixel r c = s.cachedBackdrop := by
  rw [pixel_scaledCopy (by omega) hc, scaleExpr_reference href, h192, referenceScale_margin c (by omega), evalScale]

/-- The two rows of every pair blend its three source rows (R301). -/
theorem scaledPair_scaledCopy {k g j : Nat} (hk : k < pairCount s.latched.h) (hg : g < 32) (hj : j < 5) :
    ScaledPair s.pixel (.assembled s.scaledCopy) (firstSource s.latched.h + 3 * k) (firstOut s.latched.h + 2 * k) g j := by
  obtain ⟨hout, hsource⟩ := pair_bounds s.latched.h hk
  have hcol : 5 * g + j < 160 := by omega
  constructor
  · rw [pixel_scaledCopy (by omega) hcol, scaleExpr_reference href]
    exact (congrArg _ (referenceScale_pair _ (i := 0) _ hk (by decide))).trans (evalScale_scaleVPair_upper hsource hg hj)
  · rw [pixel_scaledCopy hout hcol, scaleExpr_reference href, referenceScale_pair _ (i := 1) _ hk (by decide)]
    exact evalScale_scaleVPair_lower hsource hg hj

end
end

/-! ## The obligations -/

/-- Settles O47: each channel of a blend is the mean of that channel, so every clause is one about means. -/
theorem blendsAreFloorMeans : Obligations.BlendsAreFloorMeans := by
  refine ⟨fun a b ch hch => ?_, fun a b c ch hch => ?_, fun a b c d ch hch => ?_,
    fun p0 p1 p2 p3 p4 p5 p6 p7 ch hch => ?_, fun _ _ => opaqueColour_argb _ _ _, fun _ _ hc => blend_replicate hc,
    fun _ _ => blend_perm, fun cs lo hi hcs ch hch h => ?_, by decide, by decide⟩
  · simp [blendHalf, channel_blend hch, meanOf]
  · simp [blendThird, channel_blend hch, meanOf, Nat.add_assoc]
  · simp [blendQuarter, channel_blend hch, meanOf, Nat.add_assoc]
  · simp [blendEighth, channel_blend hch, meanOf, Nat.add_assoc]
  · rw [channel_blend hch]
    exact ⟨le_meanOf ch hcs fun c hc => (h c hc).left, meanOf_le ch fun c hc => (h c hc).right⟩

/-- Settles O48: the image is a copy of the Pixel Buffer that the line step leaves. -/
theorem frameCopies : Obligations.FrameCopies := by
  intro s hint
  have himage := lineStep_image hint
  obtain ⟨hrows, hcols⟩ := assembled_size s.lineCounted
  rw [lineCounted_latched] at hrows hcols
  refine ⟨s.lineStep, rfl, _, himage, fun hresize => ?_, fun hresize => ?_⟩
  · rw [hresize] at hrows hcols
    refine ⟨hrows, hcols, fun r c hr hc => ?_⟩
    rw [himage, assembled_normal (by simpa using hresize), lineStep_pixel]
    exact pixel_imageOf _ (by simpa using hr) hc
  · rw [hresize] at hrows hcols
    refine ⟨hrows, hcols, fun r c hr hc => ?_⟩
    rw [himage, assembled_cropped (by simpa using hresize), lineStep_pixel, State.cropCopy, pixel_imageOf _ hr hc]
    simp

/-- Settles O49: the reference downscaler row by row, over the pixels before the step, which renders nothing. -/
theorem referenceDownscale : Obligations.ReferenceDownscale := by
  intro s hp hok href hresize hint
  refine ⟨s.lineStep, rfl, fun g j hg hj => ?_⟩
  have hpair := fun k (hk : k < pairCount s.latched.h) => scaledPair_scaledCopy href hk hg hj
  rw [lineStep_image_scaled hint hp hok hresize]
  constructor
  · intro h192
    simp only [pairCount, firstSource, firstOut, if_pos h192, Nat.zero_add] at hpair
    exact ⟨fun r hr => pixel_scaledCopy_margin href h192 hr (by omega), hpair⟩
  · intro hne
    simp only [pairCount, firstSource, firstOut, if_neg hne, Nat.zero_add] at hpair
    exact hpair

/-- Settles O50: the image is the downscaler's expressions evaluated over rows 0..H−1 and the backdrop. -/
theorem downscalerContract : Obligations.DownscalerContract := by
  intro s ⟨hp, hok, hresize, hint⟩
  refine ⟨s.lineStep, rfl, s.scaledCopy, lineStep_image_scaled hint hp hok hresize, length_imageOf _ _ _,
    fun _ => length_of_mem_imageOf, fun row hrow p hpixel => ?_, fun c hc hbd hflat row hrow p hpixel => ?_,
    fun u ⟨hp', hok', hresize', hint'⟩ hscale hheight hbd hsame => ?_⟩
  · obtain ⟨r, col, rfl⟩ := exists_of_mem_imageOf hrow hpixel
    exact ⟨_, rfl⟩
  · obtain ⟨r, col, rfl⟩ := exists_of_mem_imageOf hrow hpixel
    subst hbd
    exact evalScale_const s.latched.h.toNat_pos hc hflat _
  · have hsameImage := scaledCopy_congr hscale hheight hbd hsame
    exact ⟨u.lineStep, rfl, hsameImage ▸ lineStep_image_scaled hint' hp' hok' hresize'⟩

end Sys2Proof.Machine
end

section
/-! Proofs of the exceptions and reset families (60_exceptions, 70_reset_and_hazards). First what an instruction keeps, the
illegal words, the interrupt line and the interrupt flags, and the faults that a valid video system rules out; then the
reset; then the obligations. -/

namespace Sys2Proof.Machine

/-! ## What every instruction keeps (00_scope R9, 60_exceptions R323) -/

/-- No instruction stops. -/
theorem exec_completes (i : Instr) (s : State) : ∃ t, exec i s = .next t := by
  cases i <;> exact ⟨_, rfl⟩

/-- No instruction writes the construction parameters or the inputs. -/
theorem exec_keeps_params_inputs {s t : State} {i : Instr} (h : exec i s = .next t) :
    t.params = s.params ∧ t.inputs = s.inputs := by
  cases exec_eq_next_iff.mp h with
  | line => rw [lineStep_frame]; exact ⟨rfl, rfl⟩
  | render => rw [renderLineWith_frame]; exact ⟨rfl, rfl⟩
  | regwr | vramwr | cramwr | flagclr | illegalE | illegalF | read => exact ⟨rfl, rfl⟩

/-! ## The illegal words (R321) -/

/-- The illegal words are those with OP 0xE or 0xF, the two highest. -/
theorem decodeCommand_illegal_iff (w : Word) :
    (decodeCommand w = .illegalE ∨ decodeCommand w = .illegalF) ↔ 0xE0000000 ≤ w.toNat := by
  have hword : 0xE0000000 ≤ w.toNat ↔ 14 ≤ (opField w).toNat := by
    rw [toNat_opField]
    omega
  have hlt := (opField w).isLt
  rw [hword]
  unfold decodeCommand
  interval_cases (opField w).toNat <;> simp

/-! ## The interrupt line (R325) -/

theorem flagBit_irq (s : State) :
    flagBit s.irq 0 =
      if (s.flags.framePending = true ∧ (s.reg 1).getLsbD 5 = true) ∨
         (s.flags.linePending = true ∧ (s.reg 0).getLsbD 4 = true) then 1 else 0 := by
  simp only [flagBit, State.irq, State.ie0, State.ie1, Bool.or_eq_true, Bool.and_eq_true]
  rfl

/-! ## The interrupt flags (R326, R327) -/

/-- Outside the window of the line interrupt a line step leaves LinePending alone, with or without support for it. -/
theorem lineStep_linePending_outsideWindow {s : State} (hsd : s.latched.h.toNat < s.beam.sd + 1) :
    s.lineStep.flags.linePending = s.flags.linePending := by
  cases hsupport : s.inputs.cfg.supportsLineInterrupts with
  | true => exact (lineStep_outsideWindow hsupport hsd).left
  | false => exact (lineStep_unsupported hsupport).left

/-- Every interrupt flag set before is still set. -/
structure Flags.KeepsInterrupts (f g : Flags) : Prop where
  frame : f.framePending = true → g.framePending = true
  line  : f.linePending = true → g.linePending = true

theorem Flags.KeepsInterrupts.of_eq {f g : Flags} (hframe : g.framePending = f.framePending)
    (hline : g.linePending = f.linePending) : f.KeepsInterrupts g :=
  ⟨fun h => hframe.trans h, fun h => hline.trans h⟩

/-- A line step sets interrupt flags or leaves them alone. -/
theorem keepsInterrupts_lineStep (s : State) : s.flags.KeepsInterrupts s.lineStep.flags := by
  constructor
  · intro hpending
    by_cases hint : s.beam.sd + 1 = frameIntLine s.latched.h
    · exact (lineStep_atFrameIntLine hint).left
    · exact (lineStep_offFrameIntLine hint).left.trans hpending
  · intro hpending
    cases hsupport : s.inputs.cfg.supportsLineInterrupts with
    | false => exact (lineStep_unsupported hsupport).left.trans hpending
    | true =>
      by_cases hsd : s.beam.sd + 1 ≤ s.latched.h.toNat
      · obtain ⟨hfires, hcounts⟩ := lineStep_insideWindow hsupport hsd
        by_cases hf : lineFires s.params.lineIntTest s.lineCounter = true
        · exact (hfires hf).left
        · exact (hcounts hf).left.trans hpending
      · exact (lineStep_linePending_outsideWindow (Nat.lt_of_not_le hsd)).trans hpending

theorem keepsInterrupts_of_exec {s t : State} {i : Instr} (h : exec i s = .next t) (hi : ∀ m, i ≠ .flagclr m) :
    s.flags.KeepsInterrupts t.flags := by
  cases exec_eq_next_iff.mp h with
  | flagclr m => exact absurd rfl (hi m)
  | line => exact keepsInterrupts_lineStep s
  | render =>
    obtain ⟨hframe, hline⟩ := renderLineWith_interrupts s _ s.beam.sd
    exact .of_eq hframe hline
  | regwr | vramwr | cramwr | illegalE | illegalF | read => exact .of_eq rfl rfl

/-! ## No fault with a valid video system (R321 to R323) -/

/-- With a valid video system the next region is always entered. -/
theorem enterNext_of_valid {s : State} (hvalid : s.inputs.cfg.videoSystem ≠ .invalid) :
    ∃ t, s.enterNext = .ok t ∧ t.inputs = s.inputs := by
  obtain ⟨-, sys, -, h⟩ | ⟨-, hinvalid, -⟩ | ⟨-, h⟩ := enterNext_cases s
  · exact ⟨_, h, rfl⟩
  · exact absurd hinvalid hvalid
  · exact ⟨_, h, rfl⟩

theorem passRegions_of_valid (fuel : Nat) {s : State} (hvalid : s.inputs.cfg.videoSystem ≠ .invalid) :
    ∃ t, State.passRegions fuel s = .ok t := by
  induction fuel generalizing s with
  | zero => exact ⟨s, rfl⟩
  | succ fuel ih =>
    by_cases hzero : s.beam.remaining = 0
    · obtain ⟨t, henter, hinputs⟩ := enterNext_of_valid hvalid
      rw [passRegions_succ hzero henter]
      exact ih (hinputs ▸ hvalid)
    · exact ⟨s, passRegions_remaining _ s hzero⟩

/-- With a valid video system a line step always ends in the pulse, so no fault has stopped it. -/
theorem lineStep_fault_of_valid {s : State} (hvalid : s.inputs.cfg.videoSystem ≠ .invalid) :
    s.lineStep.fault = s.fault := by
  have hinputs : s.countedDown.inputs = s.inputs := linePhases_inputs (s.answer 0)
  obtain ⟨t, hpass⟩ := passRegions_of_valid 6 (hinputs ▸ hvalid)
  have hline := lineStep_of_advance_ok ((advanceRegion_linePhases s).trans hpass)
  obtain ⟨hfault, -⟩ | ⟨-, hquiet⟩ := lineStep_pulse_or_fault s
  · exact hfault
  · rw [hline] at hquiet
    cases hquiet

theorem exec_fault_of_valid {s t : State} {i : Instr} (h : exec i s = .next t)
    (hlegal : ¬ (i = .illegalE ∨ i = .illegalF)) (hvalid : s.inputs.cfg.videoSystem ≠ .invalid) : t.fault = s.fault := by
  cases exec_eq_next_iff.mp h with
  | illegalE => exact absurd (.inl rfl) hlegal
  | illegalF => exact absurd (.inr rfl) hlegal
  | line => exact lineStep_fault_of_valid hvalid
  | render => rw [renderLineWith_frame]
  | regwr | vramwr | cramwr | flagclr | read => rfl

theorem Safe_iff {s : State} :
    s.Safe = true ↔ s.fault = none ∧ s.inputs.cfg.videoSystem ≠ .invalid ∧
      ∀ input ∈ s.inputs.pending, input.harmless = true := by
  simp only [State.Safe, Bool.and_eq_true, decide_eq_true_eq, List.all_eq_true, and_assoc]

/-! ## Reset (70_reset R350) -/

/-- What reset leaves when its BeginFrame latches the video system `sys`. -/
def State.resetWith (s : State) (c : Cycle) (sys : TvSystem) : State :=
  let f := (s.resetBase c).latchFrame sys
  { f.loadRegion with frame := { f.frame with width := f.latched.outW, height := f.latched.outH } }

/-- Everything reset can do: begin a frame with the valid system, or stop Faulted with the provisional values. -/
theorem resetBlock_cases (s : State) (c : Cycle) :
    (∃ sys, (sys = .pal ↔ s.inputs.cfg.videoSystem = .pal) ∧ s.inputs.cfg.videoSystem ≠ .invalid ∧
      s.resetBlock c = s.resetWith c sys) ∨
    (s.inputs.cfg.videoSystem = .invalid ∧ s.resetBlock c = (s.resetBase c).raiseFault .configInvalid) := by
  obtain ⟨sys, hbegin, hsys⟩ | ⟨hinvalid, hbegin⟩ := beginFrame_cases (s.resetBase c)
  · have hreset : s.resetBlock c = s.resetWith c sys := by
      rw [State.resetBlock, hbegin]
      rfl
    have hcfg : (s.resetBase c).inputs.cfg = s.inputs.cfg := rfl
    rw [hcfg] at hsys
    refine .inl ⟨sys, ?_, ?_, hreset⟩ <;> obtain ⟨hv, rfl⟩ | ⟨hv, rfl⟩ := hsys <;> simp [hv]
  · refine .inr ⟨hinvalid, ?_⟩
    rw [State.resetBlock, hbegin]

theorem resetBlock_keeps_params (s : State) (c : Cycle) : (s.resetBlock c).params = s.params := by
  obtain ⟨sys, -, -, h⟩ | ⟨-, h⟩ := resetBlock_cases s c <;> rw [h] <;> rfl

/-- The registers of the three reset defaults, and zero everywhere else (10_state R54). -/
theorem toNat_reg_resetBase (s : State) (c : Cycle) (j : Fin 16) :
    ((s.resetBase c).reg j).toNat =
      if j = 0 then 8 * s.inputs.cfg.earlyClockDefault.toNat
      else if j = 1 then 2 * s.inputs.cfg.joinSpritesDefault.toNat + s.inputs.cfg.zoomDefault.toNat else 0 := by
  have h0 (b : Bool) : (BitVec.ofNat 8 (b.toNat <<< 3)).toNat = 8 * b.toNat := by
    cases b <;> rfl
  have h1 (b d : Bool) : (BitVec.ofNat 8 (b.toNat <<< 1 ||| d.toNat)).toNat = 2 * b.toNat + d.toNat := by
    cases b <;> cases d <;> rfl
  fin_cases j
  · exact h0 _
  · exact h1 _ _
  all_goals rfl

/-- A zero R[9] latches a zero scroll (42_beam R161). -/
theorem latchYScroll_zero (h : Height) : latchYScroll h 0 = 0 := by
  cases h <;> rfl

/-! ## The obligations -/

/-- Settles O26: the line step stops in BeginFrame, which is where its phases and the region advance have led; reset stops
before it replaces a provisional value. -/
theorem invalidVideoSystemFaults : Obligations.InvalidVideoSystemFaults := by
  refine ⟨fun s hp hok hsd hinvalid => ?_, fun s c rest hpending hinvalid => ?_⟩
  · refine ⟨s.lineStep, rfl, ?_⟩
    rw [lineStep_configInvalid hp hok hsd hinvalid, ← hsd]
    exact ⟨rfl, rfl, linePhases_latched (s.answer 0), frameDone_outputs s, rfl⟩
  · obtain ⟨-, -, hvalid, -⟩ | ⟨-, hreset⟩ :=
      resetBlock_cases { s with inputs := { s.inputs with pending := rest } } c
    · exact absurd hinvalid hvalid
    · exact ⟨_, (step_of_pending_reset hpending).trans (congrArg _ hreset), rfl, rfl, rfl, rfl, rfl⟩

/-- Settles O30: the frame-interrupt line, H + 1, lies outside the window of the line interrupt, which ends at H. -/
theorem neverBothInterruptFlags : Obligations.NeverBothInterruptFlags := by
  intro s hframe hline
  refine ⟨s.lineStep, rfl, fun ⟨hframe', hline'⟩ => ?_⟩
  by_cases hint : s.beam.sd + 1 = frameIntLine s.latched.h
  · have hsd : s.latched.h.toNat < s.beam.sd + 1 := by
      rw [hint, frameIntLine_eq]
      exact Nat.lt_succ_self _
    rw [lineStep_linePending_outsideWindow hsd, hline] at hline'
    cases hline'
  · rw [(lineStep_offFrameIntLine hint).left, hframe] at hframe'
    cases hframe'

/-- Settles O54: every instruction but FLAGCLR keeps an interrupt flag that is set. -/
theorem onlyFlagclrClearsInterrupts : Obligations.OnlyFlagclrClearsInterrupts := by
  intro s t i h hcleared
  by_contra hi
  have hkeeps := keepsInterrupts_of_exec h (not_exists.mp hi)
  obtain ⟨hset, hclear⟩ | ⟨hset, hclear⟩ := hcleared
  · rw [hkeeps.frame hset] at hclear
    cases hclear
  · rw [hkeeps.line hset] at hclear
    cases hclear

/-- Settles O60: a legal command faults only in BeginFrame, and no command writes the inputs; a reset begins its frame with
the valid system. -/
theorem safeRunsNeverFault : Obligations.SafeRunsNeverFault := by
  intro s t hsafe h
  obtain ⟨hfault, hvalid, hpending⟩ := Safe_iff.mp hsafe
  cases hp : s.inputs.pending with
  | nil =>
    obtain rfl := Host.Outcome.next.inj ((step_of_pending_nil hp).symm.trans h)
    exact hsafe
  | cons input rest =>
    rw [hp] at hpending
    obtain ⟨hinput, hrest⟩ := List.forall_mem_cons.mp hpending
    cases input with
    | configure cfg =>
      obtain rfl := Host.Outcome.next.inj ((step_of_pending_configure hp).symm.trans h)
      exact Safe_iff.mpr ⟨hfault, of_decide_eq_true hinput, hrest⟩
    | reset c =>
      obtain rfl := Host.Outcome.next.inj ((step_of_pending_reset hp).symm.trans h)
      obtain ⟨sys, -, -, hreset⟩ | ⟨hinvalid, -⟩ :=
        resetBlock_cases { s with inputs := { s.inputs with pending := rest } } c
      · rw [State.applyReset, hreset]
        exact Safe_iff.mpr ⟨rfl, hvalid, hrest⟩
      · exact absurd hinvalid hvalid
    | command w c =>
      have hexec := (step_of_pending_command hp hfault).symm.trans h
      have hlegal : ¬ (decodeCommand w = .illegalE ∨ decodeCommand w = .illegalF) := by
        rw [decodeCommand_illegal_iff]
        exact Nat.not_le.mpr (of_decide_eq_true hinput)
      obtain ⟨-, hinputs⟩ := exec_keeps_params_inputs hexec
      refine Safe_iff.mpr ⟨(exec_fault_of_valid hexec hlegal hvalid).trans hfault, ?_⟩
      rw [hinputs]
      exact ⟨hvalid, hrest⟩

/-- Settles O7: the step by the input it takes; the instructions, the refusal and the reset all keep the parameters. -/
theorem everyStepCompletes : Obligations.EveryStepCompletes := by
  intro s
  cases hp : s.inputs.pending with
  | nil => exact ⟨s.idle, step_of_pending_nil hp, rfl, fun _ => rfl, by simp⟩
  | cons input rest =>
    cases input with
    | configure cfg =>
      refine ⟨s.configure cfg rest, step_of_pending_configure hp, rfl, by simp, fun _ _ hinput => ?_⟩
      cases hinput
      rfl
    | reset c =>
      exact ⟨s.applyReset c rest, step_of_pending_reset hp, resetBlock_keeps_params _ c, by simp, by simp⟩
    | command w c =>
      by_cases hfault : s.fault = none
      · obtain ⟨t, hexec⟩ := exec_completes (decodeCommand w) (s.present c rest)
        obtain ⟨hparams, -⟩ := exec_keeps_params_inputs hexec
        exact ⟨t, (step_of_pending_command hp hfault).trans hexec, hparams, by simp, by simp⟩
      · exact ⟨(s.present c rest).refuseCommand, step_of_pending_command_faulted hp hfault, rfl, by simp, by simp⟩

/-- Settles O18: IRQRD is a read of the interrupt line. -/
theorem interruptLine : Obligations.InterruptLine := fun s =>
  ⟨s.answer (flagBit s.irq 0), exec_of_readWord rfl, rfl, flagBit_irq s⟩

/-- Settles O22: the words from 0xE0000000 on are those of the two illegal OPs, which only raise the fault and answer 0. -/
theorem illegalCommandFaults : Obligations.IllegalCommandFaults := by
  intro s w hw
  have hillegal := (decodeCommand_illegal_iff w).mpr hw
  refine ⟨hillegal, ?_⟩
  obtain hi | hi := hillegal <;> rw [hi]
  · exact ⟨_, exec_of_effect .illegalE, rfl⟩
  · exact ⟨_, exec_of_effect .illegalF, rfl⟩

/-- Settles O57: reset latches over the provisional state, from registers that it has just set. -/
theorem resetState : Obligations.ResetState := by
  intro s c rest hpending hvalid
  obtain ⟨sys, hsys, -, hreset⟩ | ⟨hinvalid, -⟩ :=
    resetBlock_cases { s with inputs := { s.inputs with pending := rest } } c
  · refine ⟨_, s.freeFrames, (step_of_pending_reset hpending).trans (congrArg _ hreset), toNat_reg_resetBase _ c,
      rfl, rfl, rfl, rfl, hsys, rfl, latchYScroll_zero _, rfl, outputDims_eq _ _, ?_⟩
    exact ⟨rfl, rfl, rfl, rfl, rfl, rfl, rfl, rfl, rfl, rfl⟩
  · exact absurd hinvalid hvalid

end Sys2Proof.Machine
end
